-- ==== Sys2Proof/Syntax.lean ====
section
/-! DEFINITION. The instructions: one constructor for each row of spec/opcode_table.json, with the operand the row's
bytes hold (30_encoding.md R60, R63), and the shape of a row of the descriptor table (R2, R60). -/

namespace Sys2Proof

/-- The thirteen addressing modes (40_addressing.md R80). -/
inductive Mode where
  | implied | accumulator | immediate | zeroPage | zeroPageX | zeroPageY | relative
  | absolute | absoluteX | absoluteY | indirect | indirectX | indirectY
  deriving DecidableEq, Repr

/-- The operand of an instruction whose operand is a byte of memory: the eight modes that resolve to the address of
that byte, each with the operand bytes it starts from (R84, R85, R87 to R89, R91, R92). The modes that reach no memory
operand (Implied, Accumulator, Immediate) and the two that give a target (Relative, Indirect) have no such term. -/
inductive MemOperand where
  | zeroPage (z : Byte)
  | zeroPageX (z : Byte)
  | zeroPageY (z : Byte)
  | absolute (w : Addr)
  | absoluteX (w : Addr)
  | absoluteY (w : Addr)
  | indirectX (z : Byte)
  | indirectY (z : Byte)
  deriving DecidableEq, Repr

/-- The instructions. The comment of each constructor gives its opcode byte, the table's mnemonic and mode, and the
rule of spec/ that gives its meaning. First the instructions with an operand byte or word, then those without. -/
inductive Instr where
  /-- 01: ORA IndirectX (R125). -/
  | oraIndX (z : Byte)
  /-- 03: SLO IndirectX (R196). -/
  | sloIndX (z : Byte)
  /-- 04: NOP ZeroPage (R191). -/
  | nopZp04 (z : Byte)
  /-- 05: ORA ZeroPage (R125). -/
  | oraZp (z : Byte)
  /-- 06: ASL ZeroPage (R140). -/
  | aslZp (z : Byte)
  /-- 07: SLO ZeroPage (R196). -/
  | sloZp (z : Byte)
  /-- 09: ORA Immediate (R125). -/
  | oraImm (v : Byte)
  /-- 0C: NOP Absolute (R191). -/
  | nopAbs0C (w : Addr)
  /-- 0D: ORA Absolute (R125). -/
  | oraAbs (w : Addr)
  /-- 0E: ASL Absolute (R140). -/
  | aslAbs (w : Addr)
  /-- 0F: SLO Absolute (R196). -/
  | sloAbs (w : Addr)
  /-- 10: BPL Relative (R156). -/
  | bpl (off : Byte)
  /-- 11: ORA IndirectY (R125). -/
  | oraIndY (z : Byte)
  /-- 13: SLO IndirectY (R196). -/
  | sloIndY (z : Byte)
  /-- 14: NOP ZeroPageX (R191). -/
  | nopZpX14 (z : Byte)
  /-- 15: ORA ZeroPageX (R125). -/
  | oraZpX (z : Byte)
  /-- 16: ASL ZeroPageX (R140). -/
  | aslZpX (z : Byte)
  /-- 17: SLO ZeroPageX (R196). -/
  | sloZpX (z : Byte)
  /-- 19: ORA AbsoluteY (R125). -/
  | oraAbsY (w : Addr)
  /-- 1B: SLO AbsoluteY (R196). -/
  | sloAbsY (w : Addr)
  /-- 1C: NOP AbsoluteX (R191). -/
  | nopAbsX1C (w : Addr)
  /-- 1D: ORA AbsoluteX (R125). -/
  | oraAbsX (w : Addr)
  /-- 1E: ASL AbsoluteX (R140). -/
  | aslAbsX (w : Addr)
  /-- 1F: SLO AbsoluteX (R196). -/
  | sloAbsX (w : Addr)
  /-- 20: JSR Absolute (R160). -/
  | jsr (w : Addr)
  /-- 21: AND IndirectX (R124). -/
  | andIndX (z : Byte)
  /-- 23: RLA IndirectX (R197). -/
  | rlaIndX (z : Byte)
  /-- 24: BIT ZeroPage (R130). -/
  | bitZp (z : Byte)
  /-- 25: AND ZeroPage (R124). -/
  | andZp (z : Byte)
  /-- 26: ROL ZeroPage (R142). -/
  | rolZp (z : Byte)
  /-- 27: RLA ZeroPage (R197). -/
  | rlaZp (z : Byte)
  /-- 29: AND Immediate (R124). -/
  | andImm (v : Byte)
  /-- 2C: BIT Absolute (R130). -/
  | bitAbs (w : Addr)
  /-- 2D: AND Absolute (R124). -/
  | andAbs (w : Addr)
  /-- 2E: ROL Absolute (R142). -/
  | rolAbs (w : Addr)
  /-- 2F: RLA Absolute (R197). -/
  | rlaAbs (w : Addr)
  /-- 30: BMI Relative (R155). -/
  | bmi (off : Byte)
  /-- 31: AND IndirectY (R124). -/
  | andIndY (z : Byte)
  /-- 33: RLA IndirectY (R197). -/
  | rlaIndY (z : Byte)
  /-- 34: NOP ZeroPageX (R191). -/
  | nopZpX34 (z : Byte)
  /-- 35: AND ZeroPageX (R124). -/
  | andZpX (z : Byte)
  /-- 36: ROL ZeroPageX (R142). -/
  | rolZpX (z : Byte)
  /-- 37: RLA ZeroPageX (R197). -/
  | rlaZpX (z : Byte)
  /-- 39: AND AbsoluteY (R124). -/
  | andAbsY (w : Addr)
  /-- 3B: RLA AbsoluteY (R197). -/
  | rlaAbsY (w : Addr)
  /-- 3C: NOP AbsoluteX (R191). -/
  | nopAbsX3C (w : Addr)
  /-- 3D: AND AbsoluteX (R124). -/
  | andAbsX (w : Addr)
  /-- 3E: ROL AbsoluteX (R142). -/
  | rolAbsX (w : Addr)
  /-- 3F: RLA AbsoluteX (R197). -/
  | rlaAbsX (w : Addr)
  /-- 41: EOR IndirectX (R126). -/
  | eorIndX (z : Byte)
  /-- 43: SRE IndirectX (R198). -/
  | sreIndX (z : Byte)
  /-- 44: NOP ZeroPage (R191). -/
  | nopZp44 (z : Byte)
  /-- 45: EOR ZeroPage (R126). -/
  | eorZp (z : Byte)
  /-- 46: LSR ZeroPage (R141). -/
  | lsrZp (z : Byte)
  /-- 47: SRE ZeroPage (R198). -/
  | sreZp (z : Byte)
  /-- 49: EOR Immediate (R126). -/
  | eorImm (v : Byte)
  /-- 4C: JMP Absolute (R159). -/
  | jmpAbs (w : Addr)
  /-- 4D: EOR Absolute (R126). -/
  | eorAbs (w : Addr)
  /-- 4E: LSR Absolute (R141). -/
  | lsrAbs (w : Addr)
  /-- 4F: SRE Absolute (R198). -/
  | sreAbs (w : Addr)
  /-- 50: BVC Relative (R157). -/
  | bvc (off : Byte)
  /-- 51: EOR IndirectY (R126). -/
  | eorIndY (z : Byte)
  /-- 53: SRE IndirectY (R198). -/
  | sreIndY (z : Byte)
  /-- 54: NOP ZeroPageX (R191). -/
  | nopZpX54 (z : Byte)
  /-- 55: EOR ZeroPageX (R126). -/
  | eorZpX (z : Byte)
  /-- 56: LSR ZeroPageX (R141). -/
  | lsrZpX (z : Byte)
  /-- 57: SRE ZeroPageX (R198). -/
  | sreZpX (z : Byte)
  /-- 59: EOR AbsoluteY (R126). -/
  | eorAbsY (w : Addr)
  /-- 5B: SRE AbsoluteY (R198). -/
  | sreAbsY (w : Addr)
  /-- 5C: NOP AbsoluteX (R191). -/
  | nopAbsX5C (w : Addr)
  /-- 5D: EOR AbsoluteX (R126). -/
  | eorAbsX (w : Addr)
  /-- 5E: LSR AbsoluteX (R141). -/
  | lsrAbsX (w : Addr)
  /-- 5F: SRE AbsoluteX (R198). -/
  | sreAbsX (w : Addr)
  /-- 61: ADC IndirectX (R122). -/
  | adcIndX (z : Byte)
  /-- 63: RRA IndirectX (R199). -/
  | rraIndX (z : Byte)
  /-- 64: NOP ZeroPage (R191). -/
  | nopZp64 (z : Byte)
  /-- 65: ADC ZeroPage (R122). -/
  | adcZp (z : Byte)
  /-- 66: ROR ZeroPage (R143). -/
  | rorZp (z : Byte)
  /-- 67: RRA ZeroPage (R199). -/
  | rraZp (z : Byte)
  /-- 69: ADC Immediate (R122). -/
  | adcImm (v : Byte)
  /-- 6C: JMP Indirect (R159). -/
  | jmpInd (w : Addr)
  /-- 6D: ADC Absolute (R122). -/
  | adcAbs (w : Addr)
  /-- 6E: ROR Absolute (R143). -/
  | rorAbs (w : Addr)
  /-- 6F: RRA Absolute (R199). -/
  | rraAbs (w : Addr)
  /-- 70: BVS Relative (R158). -/
  | bvs (off : Byte)
  /-- 71: ADC IndirectY (R122). -/
  | adcIndY (z : Byte)
  /-- 73: RRA IndirectY (R199). -/
  | rraIndY (z : Byte)
  /-- 74: NOP ZeroPageX (R191). -/
  | nopZpX74 (z : Byte)
  /-- 75: ADC ZeroPageX (R122). -/
  | adcZpX (z : Byte)
  /-- 76: ROR ZeroPageX (R143). -/
  | rorZpX (z : Byte)
  /-- 77: RRA ZeroPageX (R199). -/
  | rraZpX (z : Byte)
  /-- 79: ADC AbsoluteY (R122). -/
  | adcAbsY (w : Addr)
  /-- 7B: RRA AbsoluteY (R199). -/
  | rraAbsY (w : Addr)
  /-- 7C: NOP AbsoluteX (R191). -/
  | nopAbsX7C (w : Addr)
  /-- 7D: ADC AbsoluteX (R122). -/
  | adcAbsX (w : Addr)
  /-- 7E: ROR AbsoluteX (R143). -/
  | rorAbsX (w : Addr)
  /-- 7F: RRA AbsoluteX (R199). -/
  | rraAbsX (w : Addr)
  /-- 80: NOP Immediate (R191). -/
  | nopImm80 (v : Byte)
  /-- 81: STA IndirectX (R103). -/
  | staIndX (z : Byte)
  /-- 82: NOP Immediate (R191). -/
  | nopImm82 (v : Byte)
  /-- 83: SAX IndirectX (R193). -/
  | saxIndX (z : Byte)
  /-- 84: STY ZeroPage (R105). -/
  | styZp (z : Byte)
  /-- 85: STA ZeroPage (R103). -/
  | staZp (z : Byte)
  /-- 86: STX ZeroPage (R104). -/
  | stxZp (z : Byte)
  /-- 87: SAX ZeroPage (R193). -/
  | saxZp (z : Byte)
  /-- 89: NOP Immediate (R191). -/
  | nopImm89 (v : Byte)
  /-- 8C: STY Absolute (R105). -/
  | styAbs (w : Addr)
  /-- 8D: STA Absolute (R103). -/
  | staAbs (w : Addr)
  /-- 8E: STX Absolute (R104). -/
  | stxAbs (w : Addr)
  /-- 8F: SAX Absolute (R193). -/
  | saxAbs (w : Addr)
  /-- 90: BCC Relative (R151). -/
  | bcc (off : Byte)
  /-- 91: STA IndirectY (R103). -/
  | staIndY (z : Byte)
  /-- 94: STY ZeroPageX (R105). -/
  | styZpX (z : Byte)
  /-- 95: STA ZeroPageX (R103). -/
  | staZpX (z : Byte)
  /-- 96: STX ZeroPageY (R104). -/
  | stxZpY (z : Byte)
  /-- 97: SAX ZeroPageY (R193). -/
  | saxZpY (z : Byte)
  /-- 99: STA AbsoluteY (R103). -/
  | staAbsY (w : Addr)
  /-- 9D: STA AbsoluteX (R103). -/
  | staAbsX (w : Addr)
  /-- A0: LDY Immediate (R102). -/
  | ldyImm (v : Byte)
  /-- A1: LDA IndirectX (R100). -/
  | ldaIndX (z : Byte)
  /-- A2: LDX Immediate (R101). -/
  | ldxImm (v : Byte)
  /-- A3: LAX IndirectX (R192). -/
  | laxIndX (z : Byte)
  /-- A4: LDY ZeroPage (R102). -/
  | ldyZp (z : Byte)
  /-- A5: LDA ZeroPage (R100). -/
  | ldaZp (z : Byte)
  /-- A6: LDX ZeroPage (R101). -/
  | ldxZp (z : Byte)
  /-- A7: LAX ZeroPage (R192). -/
  | laxZp (z : Byte)
  /-- A9: LDA Immediate (R100). -/
  | ldaImm (v : Byte)
  /-- AC: LDY Absolute (R102). -/
  | ldyAbs (w : Addr)
  /-- AD: LDA Absolute (R100). -/
  | ldaAbs (w : Addr)
  /-- AE: LDX Absolute (R101). -/
  | ldxAbs (w : Addr)
  /-- AF: LAX Absolute (R192). -/
  | laxAbs (w : Addr)
  /-- B0: BCS Relative (R152). -/
  | bcs (off : Byte)
  /-- B1: LDA IndirectY (R100). -/
  | ldaIndY (z : Byte)
  /-- B3: LAX IndirectY (R192). -/
  | laxIndY (z : Byte)
  /-- B4: LDY ZeroPageX (R102). -/
  | ldyZpX (z : Byte)
  /-- B5: LDA ZeroPageX (R100). -/
  | ldaZpX (z : Byte)
  /-- B6: LDX ZeroPageY (R101). -/
  | ldxZpY (z : Byte)
  /-- B7: LAX ZeroPageY (R192). -/
  | laxZpY (z : Byte)
  /-- B9: LDA AbsoluteY (R100). -/
  | ldaAbsY (w : Addr)
  /-- BC: LDY AbsoluteX (R102). -/
  | ldyAbsX (w : Addr)
  /-- BD: LDA AbsoluteX (R100). -/
  | ldaAbsX (w : Addr)
  /-- BE: LDX AbsoluteY (R101). -/
  | ldxAbsY (w : Addr)
  /-- BF: LAX AbsoluteY (R192). -/
  | laxAbsY (w : Addr)
  /-- C0: CPY Immediate (R129). -/
  | cpyImm (v : Byte)
  /-- C1: CMP IndirectX (R127). -/
  | cmpIndX (z : Byte)
  /-- C2: NOP Immediate (R191). -/
  | nopImmC2 (v : Byte)
  /-- C3: DCP IndirectX (R200). -/
  | dcpIndX (z : Byte)
  /-- C4: CPY ZeroPage (R129). -/
  | cpyZp (z : Byte)
  /-- C5: CMP ZeroPage (R127). -/
  | cmpZp (z : Byte)
  /-- C6: DEC ZeroPage (R132). -/
  | decZp (z : Byte)
  /-- C7: DCP ZeroPage (R200). -/
  | dcpZp (z : Byte)
  /-- C9: CMP Immediate (R127). -/
  | cmpImm (v : Byte)
  /-- CC: CPY Absolute (R129). -/
  | cpyAbs (w : Addr)
  /-- CD: CMP Absolute (R127). -/
  | cmpAbs (w : Addr)
  /-- CE: DEC Absolute (R132). -/
  | decAbs (w : Addr)
  /-- CF: DCP Absolute (R200). -/
  | dcpAbs (w : Addr)
  /-- D0: BNE Relative (R154). -/
  | bne (off : Byte)
  /-- D1: CMP IndirectY (R127). -/
  | cmpIndY (z : Byte)
  /-- D3: DCP IndirectY (R200). -/
  | dcpIndY (z : Byte)
  /-- D4: NOP ZeroPageX (R191). -/
  | nopZpXD4 (z : Byte)
  /-- D5: CMP ZeroPageX (R127). -/
  | cmpZpX (z : Byte)
  /-- D6: DEC ZeroPageX (R132). -/
  | decZpX (z : Byte)
  /-- D7: DCP ZeroPageX (R200). -/
  | dcpZpX (z : Byte)
  /-- D9: CMP AbsoluteY (R127). -/
  | cmpAbsY (w : Addr)
  /-- DB: DCP AbsoluteY (R200). -/
  | dcpAbsY (w : Addr)
  /-- DC: NOP AbsoluteX (R191). -/
  | nopAbsXDC (w : Addr)
  /-- DD: CMP AbsoluteX (R127). -/
  | cmpAbsX (w : Addr)
  /-- DE: DEC AbsoluteX (R132). -/
  | decAbsX (w : Addr)
  /-- DF: DCP AbsoluteX (R200). -/
  | dcpAbsX (w : Addr)
  /-- E0: CPX Immediate (R128). -/
  | cpxImm (v : Byte)
  /-- E1: SBC IndirectX (R123). -/
  | sbcIndX (z : Byte)
  /-- E2: NOP Immediate (R191). -/
  | nopImmE2 (v : Byte)
  /-- E3: ISB IndirectX (R201). -/
  | isbIndX (z : Byte)
  /-- E4: CPX ZeroPage (R128). -/
  | cpxZp (z : Byte)
  /-- E5: SBC ZeroPage (R123). -/
  | sbcZp (z : Byte)
  /-- E6: INC ZeroPage (R131). -/
  | incZp (z : Byte)
  /-- E7: ISB ZeroPage (R201). -/
  | isbZp (z : Byte)
  /-- E9: SBC Immediate (R123). -/
  | sbcImm (v : Byte)
  /-- EB: SBC Immediate (R194). -/
  | sbcImmEB (v : Byte)
  /-- EC: CPX Absolute (R128). -/
  | cpxAbs (w : Addr)
  /-- ED: SBC Absolute (R123). -/
  | sbcAbs (w : Addr)
  /-- EE: INC Absolute (R131). -/
  | incAbs (w : Addr)
  /-- EF: ISB Absolute (R201). -/
  | isbAbs (w : Addr)
  /-- F0: BEQ Relative (R153). -/
  | beq (off : Byte)
  /-- F1: SBC IndirectY (R123). -/
  | sbcIndY (z : Byte)
  /-- F3: ISB IndirectY (R201). -/
  | isbIndY (z : Byte)
  /-- F4: NOP ZeroPageX (R191). -/
  | nopZpXF4 (z : Byte)
  /-- F5: SBC ZeroPageX (R123). -/
  | sbcZpX (z : Byte)
  /-- F6: INC ZeroPageX (R131). -/
  | incZpX (z : Byte)
  /-- F7: ISB ZeroPageX (R201). -/
  | isbZpX (z : Byte)
  /-- F9: SBC AbsoluteY (R123). -/
  | sbcAbsY (w : Addr)
  /-- FB: ISB AbsoluteY (R201). -/
  | isbAbsY (w : Addr)
  /-- FC: NOP AbsoluteX (R191). -/
  | nopAbsXFC (w : Addr)
  /-- FD: SBC AbsoluteX (R123). -/
  | sbcAbsX (w : Addr)
  /-- FE: INC AbsoluteX (R131). -/
  | incAbsX (w : Addr)
  /-- FF: ISB AbsoluteX (R201). -/
  | isbAbsX (w : Addr)
  /-- 00: BRK Implied (R181). -/
  | brk
  /-- 02: JAM trap slot (R202). -/
  | jam02
  /-- 08: PHP Implied (R171). -/
  | php
  /-- 0A: ASL Accumulator (R140). -/
  | aslA
  /-- 0B: ANC trap slot (R202). -/
  | anc0B
  /-- 12: JAM trap slot (R202). -/
  | jam12
  /-- 18: CLC Implied (R174). -/
  | clc
  /-- 1A: NOP Implied (R191). -/
  | nopImp1A
  /-- 22: JAM trap slot (R202). -/
  | jam22
  /-- 28: PLP Implied (R173). -/
  | plp
  /-- 2A: ROL Accumulator (R142). -/
  | rolA
  /-- 2B: ANC trap slot (R202). -/
  | anc2B
  /-- 32: JAM trap slot (R202). -/
  | jam32
  /-- 38: SEC Implied (R175). -/
  | sec
  /-- 3A: NOP Implied (R191). -/
  | nopImp3A
  /-- 40: RTI Implied (R182). -/
  | rti
  /-- 42: JAM trap slot (R202). -/
  | jam42
  /-- 48: PHA Implied (R170). -/
  | pha
  /-- 4A: LSR Accumulator (R141). -/
  | lsrA
  /-- 4B: ALR trap slot (R202). -/
  | alr
  /-- 52: JAM trap slot (R202). -/
  | jam52
  /-- 58: CLI Implied (R176). -/
  | cli
  /-- 5A: NOP Implied (R191). -/
  | nopImp5A
  /-- 60: RTS Implied (R161). -/
  | rts
  /-- 62: JAM trap slot (R202). -/
  | jam62
  /-- 68: PLA Implied (R172). -/
  | pla
  /-- 6A: ROR Accumulator (R143). -/
  | rorA
  /-- 6B: ARR trap slot (R202). -/
  | arr
  /-- 72: JAM trap slot (R202). -/
  | jam72
  /-- 78: SEI Implied (R177). -/
  | sei
  /-- 7A: NOP Implied (R191). -/
  | nopImp7A
  /-- 88: DEY Implied (R136). -/
  | dey
  /-- 8A: TXA Implied (R108). -/
  | txa
  /-- 8B: XAA trap slot (R202). -/
  | xaa
  /-- 92: JAM trap slot (R202). -/
  | jam92
  /-- 93: SHA trap slot (R202). -/
  | sha93
  /-- 98: TYA Implied (R109). -/
  | tya
  /-- 9A: TXS Implied (R111). -/
  | txs
  /-- 9B: TAS trap slot (R202). -/
  | tas
  /-- 9C: SHY trap slot (R202). -/
  | shy
  /-- 9E: SHX trap slot (R202). -/
  | shx
  /-- 9F: SHA trap slot (R202). -/
  | sha9F
  /-- A8: TAY Implied (R107). -/
  | tay
  /-- AA: TAX Implied (R106). -/
  | tax
  /-- AB: LXA trap slot (R202). -/
  | lxa
  /-- B2: JAM trap slot (R202). -/
  | jamB2
  /-- B8: CLV Implied (R180). -/
  | clv
  /-- BA: TSX Implied (R110). -/
  | tsx
  /-- BB: LAS trap slot (R202). -/
  | las
  /-- C8: INY Implied (R134). -/
  | iny
  /-- CA: DEX Implied (R135). -/
  | dex
  /-- CB: SBX trap slot (R202). -/
  | sbx
  /-- D2: JAM trap slot (R202). -/
  | jamD2
  /-- D8: CLD Implied (R178). -/
  | cld
  /-- DA: NOP Implied (R191). -/
  | nopImpDA
  /-- E8: INX Implied (R133). -/
  | inx
  /-- EA: NOP Implied (R183). -/
  | nop
  /-- F2: JAM trap slot (R202). -/
  | jamF2
  /-- F8: SED Implied (R179). -/
  | sed
  /-- FA: NOP Implied (R191). -/
  | nopImpFA
  deriving DecidableEq, Repr

/-- What follows an opcode byte, and the instruction it makes (R60, R62). -/
inductive Form where
  /-- One byte, no operand (format F1, and the trap slots, whose operand bytes are never read: R202). -/
  | alone (i : Instr)
  /-- BRK: a second byte that is skipped and not read (R62). -/
  | padded (i : Instr)
  /-- One operand byte (format F2). -/
  | withByte (f : Byte → Instr)
  /-- Two operand bytes, low byte first (format F3). -/
  | withWord (f : Addr → Instr)

/-- How an opcode slot is treated (30_encoding.md R65, R66). -/
inductive SlotClass where
  | legal | supported | trap
  deriving DecidableEq, Repr

/-- A row of the instruction descriptor table (00_scope.md R2, 30_encoding.md R60, opcode_table.json). -/
structure Descriptor where
  /-- "for diagnostics only" (R60, R68) -/
  mnemonic : String
  slot : SlotClass
  /-- none for a trap slot -/
  mode : Option Mode
  /-- the byte size, 1 to 3 -/
  size : Nat
  /-- the base cycle count; none for a trap slot, which returns no count (R202) -/
  cycles : Option Nat
  /-- whether a page crossing adds a cycle (40_addressing.md R95) -/
  pageCross : Bool
  form : Form

end Sys2Proof
end

