-- ==== Sys2Proof/WellFormed.lean ====
section
/-! DEFINITION. What the spec requires of a row of the descriptor table, of an instruction and of its bytes. -/

namespace Sys2Proof

/-- Every operand value an instruction can hold is legal: "Operand bytes have no reserved values" (30_encoding.md R66),
and a constructor exists for table rows only, so the types leave nothing to refuse. -/
def Instr.wellFormed (_ : Instr) : Bool := true

/-- The byte size of an addressing mode (R62). -/
def Mode.size : Mode → Nat
  | .implied | .accumulator => 1
  | .immediate | .zeroPage | .zeroPageX | .zeroPageY | .relative | .indirectX | .indirectY => 2
  | .absolute | .absoluteX | .absoluteY | .indirect => 3

/-- Whether an indexed data mode reports a page crossing that a read may pay for (40_addressing.md R80, R95). -/
def Mode.crosses : Mode → Bool
  | .absoluteX | .absoluteY | .indirectY => true
  | _ => false

/-- Whether the form reads the number of operand bytes the size leaves after the opcode. -/
def Form.fitsSize (size : Nat) : Form → Bool
  | .alone _ => size == 1
  | .padded _ => size == 2
  | .withByte _ => size == 2
  | .withWord _ => size == 3

/-- The size is the mode's, but for the one exception: BRK is Implied with a padding byte (R62). -/
def Descriptor.sizeOk (d : Descriptor) : Bool :=
  match d.form, d.mode with
  | .padded _, m => d.size == 2 && m == some .implied
  | _, some m => d.size == m.size
  | _, none => d.size == 1

/-- A base count is 2 to 8 (40_addressing.md R98). -/
def Descriptor.cyclesOk (d : Descriptor) : Bool :=
  match d.cycles with
  | some n => 2 ≤ n && n ≤ 8
  | none => true

/-- Only a mode that can cross a page takes the penalty (R95). -/
def Descriptor.penaltyOk (d : Descriptor) : Bool :=
  !d.pageCross || d.mode.any Mode.crosses

/-- A trap slot, and only a trap slot, has no mode and returns no count (46_illegal.md R202). -/
def Descriptor.trapOk (d : Descriptor) : Bool :=
  d.cycles.isNone == (d.slot == .trap) && d.mode.isNone == (d.slot == .trap)

/-- All the checks on a row of the descriptor table. -/
def Descriptor.wellFormed (d : Descriptor) : Bool :=
  d.sizeOk && d.form.fitsSize d.size && d.cyclesOk && d.penaltyOk && d.trapOk

/-- The bytes of one instruction: as many as its row says (R60, R62). -/
def Descriptor.imageOk (d : Descriptor) (bytes : List Byte) : Bool := bytes.length == d.size

end Sys2Proof
end

