-- ==== Sys2Proof/Decode.lean ====
section
/-! DEFINITION. The instruction descriptor table (00_scope.md R2, 30_encoding.md R64, opcode_table.json), the decoder
over it, and the encoder. -/

namespace Sys2Proof

/-- The high byte of a word (00_scope.md R10). -/
def hi (w : Addr) : Byte := w.extractLsb' 8 8

/-- The low byte of a word (R10). -/
def lo (w : Addr) : Byte := w.extractLsb' 0 8

/-- The word of a high and a low byte (R10): every 16-bit quantity is little-endian in memory (20_memory.md R42). -/
def word (h l : Byte) : Addr := h ++ l

/-- Opcodes 00 to 0F of the map (R64), by the low nibble. -/
def descriptorRow0 : Nat → Descriptor
  | 0x0 => ⟨"BRK", .legal, (some .implied), 2, (some 7), false, .padded .brk⟩
  | 0x1 => ⟨"ORA", .legal, (some .indirectX), 2, (some 6), false, .withByte .oraIndX⟩
  | 0x2 => ⟨"JAM", .trap, none, 1, none, false, .alone .jam02⟩
  | 0x3 => ⟨"SLO", .supported, (some .indirectX), 2, (some 8), false, .withByte .sloIndX⟩
  | 0x4 => ⟨"NOP", .supported, (some .zeroPage), 2, (some 3), false, .withByte .nopZp04⟩
  | 0x5 => ⟨"ORA", .legal, (some .zeroPage), 2, (some 3), false, .withByte .oraZp⟩
  | 0x6 => ⟨"ASL", .legal, (some .zeroPage), 2, (some 5), false, .withByte .aslZp⟩
  | 0x7 => ⟨"SLO", .supported, (some .zeroPage), 2, (some 5), false, .withByte .sloZp⟩
  | 0x8 => ⟨"PHP", .legal, (some .implied), 1, (some 3), false, .alone .php⟩
  | 0x9 => ⟨"ORA", .legal, (some .immediate), 2, (some 2), false, .withByte .oraImm⟩
  | 0xA => ⟨"ASL", .legal, (some .accumulator), 1, (some 2), false, .alone .aslA⟩
  | 0xB => ⟨"ANC", .trap, none, 1, none, false, .alone .anc0B⟩
  | 0xC => ⟨"NOP", .supported, (some .absolute), 3, (some 4), false, .withWord .nopAbs0C⟩
  | 0xD => ⟨"ORA", .legal, (some .absolute), 3, (some 4), false, .withWord .oraAbs⟩
  | 0xE => ⟨"ASL", .legal, (some .absolute), 3, (some 6), false, .withWord .aslAbs⟩
  | _ => ⟨"SLO", .supported, (some .absolute), 3, (some 6), false, .withWord .sloAbs⟩

/-- Opcodes 10 to 1F of the map (R64), by the low nibble. -/
def descriptorRow1 : Nat → Descriptor
  | 0x0 => ⟨"BPL", .legal, (some .relative), 2, (some 2), false, .withByte .bpl⟩
  | 0x1 => ⟨"ORA", .legal, (some .indirectY), 2, (some 5), true, .withByte .oraIndY⟩
  | 0x2 => ⟨"JAM", .trap, none, 1, none, false, .alone .jam12⟩
  | 0x3 => ⟨"SLO", .supported, (some .indirectY), 2, (some 8), false, .withByte .sloIndY⟩
  | 0x4 => ⟨"NOP", .supported, (some .zeroPageX), 2, (some 4), false, .withByte .nopZpX14⟩
  | 0x5 => ⟨"ORA", .legal, (some .zeroPageX), 2, (some 4), false, .withByte .oraZpX⟩
  | 0x6 => ⟨"ASL", .legal, (some .zeroPageX), 2, (some 6), false, .withByte .aslZpX⟩
  | 0x7 => ⟨"SLO", .supported, (some .zeroPageX), 2, (some 6), false, .withByte .sloZpX⟩
  | 0x8 => ⟨"CLC", .legal, (some .implied), 1, (some 2), false, .alone .clc⟩
  | 0x9 => ⟨"ORA", .legal, (some .absoluteY), 3, (some 4), true, .withWord .oraAbsY⟩
  | 0xA => ⟨"NOP", .supported, (some .implied), 1, (some 2), false, .alone .nopImp1A⟩
  | 0xB => ⟨"SLO", .supported, (some .absoluteY), 3, (some 7), false, .withWord .sloAbsY⟩
  | 0xC => ⟨"NOP", .supported, (some .absoluteX), 3, (some 4), true, .withWord .nopAbsX1C⟩
  | 0xD => ⟨"ORA", .legal, (some .absoluteX), 3, (some 4), true, .withWord .oraAbsX⟩
  | 0xE => ⟨"ASL", .legal, (some .absoluteX), 3, (some 7), false, .withWord .aslAbsX⟩
  | _ => ⟨"SLO", .supported, (some .absoluteX), 3, (some 7), false, .withWord .sloAbsX⟩

/-- Opcodes 20 to 2F of the map (R64), by the low nibble. -/
def descriptorRow2 : Nat → Descriptor
  | 0x0 => ⟨"JSR", .legal, (some .absolute), 3, (some 6), false, .withWord .jsr⟩
  | 0x1 => ⟨"AND", .legal, (some .indirectX), 2, (some 6), false, .withByte .andIndX⟩
  | 0x2 => ⟨"JAM", .trap, none, 1, none, false, .alone .jam22⟩
  | 0x3 => ⟨"RLA", .supported, (some .indirectX), 2, (some 8), false, .withByte .rlaIndX⟩
  | 0x4 => ⟨"BIT", .legal, (some .zeroPage), 2, (some 3), false, .withByte .bitZp⟩
  | 0x5 => ⟨"AND", .legal, (some .zeroPage), 2, (some 3), false, .withByte .andZp⟩
  | 0x6 => ⟨"ROL", .legal, (some .zeroPage), 2, (some 5), false, .withByte .rolZp⟩
  | 0x7 => ⟨"RLA", .supported, (some .zeroPage), 2, (some 5), false, .withByte .rlaZp⟩
  | 0x8 => ⟨"PLP", .legal, (some .implied), 1, (some 4), false, .alone .plp⟩
  | 0x9 => ⟨"AND", .legal, (some .immediate), 2, (some 2), false, .withByte .andImm⟩
  | 0xA => ⟨"ROL", .legal, (some .accumulator), 1, (some 2), false, .alone .rolA⟩
  | 0xB => ⟨"ANC", .trap, none, 1, none, false, .alone .anc2B⟩
  | 0xC => ⟨"BIT", .legal, (some .absolute), 3, (some 4), false, .withWord .bitAbs⟩
  | 0xD => ⟨"AND", .legal, (some .absolute), 3, (some 4), false, .withWord .andAbs⟩
  | 0xE => ⟨"ROL", .legal, (some .absolute), 3, (some 6), false, .withWord .rolAbs⟩
  | _ => ⟨"RLA", .supported, (some .absolute), 3, (some 6), false, .withWord .rlaAbs⟩

/-- Opcodes 30 to 3F of the map (R64), by the low nibble. -/
def descriptorRow3 : Nat → Descriptor
  | 0x0 => ⟨"BMI", .legal, (some .relative), 2, (some 2), false, .withByte .bmi⟩
  | 0x1 => ⟨"AND", .legal, (some .indirectY), 2, (some 5), true, .withByte .andIndY⟩
  | 0x2 => ⟨"JAM", .trap, none, 1, none, false, .alone .jam32⟩
  | 0x3 => ⟨"RLA", .supported, (some .indirectY), 2, (some 8), false, .withByte .rlaIndY⟩
  | 0x4 => ⟨"NOP", .supported, (some .zeroPageX), 2, (some 4), false, .withByte .nopZpX34⟩
  | 0x5 => ⟨"AND", .legal, (some .zeroPageX), 2, (some 4), false, .withByte .andZpX⟩
  | 0x6 => ⟨"ROL", .legal, (some .zeroPageX), 2, (some 6), false, .withByte .rolZpX⟩
  | 0x7 => ⟨"RLA", .supported, (some .zeroPageX), 2, (some 6), false, .withByte .rlaZpX⟩
  | 0x8 => ⟨"SEC", .legal, (some .implied), 1, (some 2), false, .alone .sec⟩
  | 0x9 => ⟨"AND", .legal, (some .absoluteY), 3, (some 4), true, .withWord .andAbsY⟩
  | 0xA => ⟨"NOP", .supported, (some .implied), 1, (some 2), false, .alone .nopImp3A⟩
  | 0xB => ⟨"RLA", .supported, (some .absoluteY), 3, (some 7), false, .withWord .rlaAbsY⟩
  | 0xC => ⟨"NOP", .supported, (some .absoluteX), 3, (some 4), true, .withWord .nopAbsX3C⟩
  | 0xD => ⟨"AND", .legal, (some .absoluteX), 3, (some 4), true, .withWord .andAbsX⟩
  | 0xE => ⟨"ROL", .legal, (some .absoluteX), 3, (some 7), false, .withWord .rolAbsX⟩
  | _ => ⟨"RLA", .supported, (some .absoluteX), 3, (some 7), false, .withWord .rlaAbsX⟩

/-- Opcodes 40 to 4F of the map (R64), by the low nibble. -/
def descriptorRow4 : Nat → Descriptor
  | 0x0 => ⟨"RTI", .legal, (some .implied), 1, (some 6), false, .alone .rti⟩
  | 0x1 => ⟨"EOR", .legal, (some .indirectX), 2, (some 6), false, .withByte .eorIndX⟩
  | 0x2 => ⟨"JAM", .trap, none, 1, none, false, .alone .jam42⟩
  | 0x3 => ⟨"SRE", .supported, (some .indirectX), 2, (some 8), false, .withByte .sreIndX⟩
  | 0x4 => ⟨"NOP", .supported, (some .zeroPage), 2, (some 3), false, .withByte .nopZp44⟩
  | 0x5 => ⟨"EOR", .legal, (some .zeroPage), 2, (some 3), false, .withByte .eorZp⟩
  | 0x6 => ⟨"LSR", .legal, (some .zeroPage), 2, (some 5), false, .withByte .lsrZp⟩
  | 0x7 => ⟨"SRE", .supported, (some .zeroPage), 2, (some 5), false, .withByte .sreZp⟩
  | 0x8 => ⟨"PHA", .legal, (some .implied), 1, (some 3), false, .alone .pha⟩
  | 0x9 => ⟨"EOR", .legal, (some .immediate), 2, (some 2), false, .withByte .eorImm⟩
  | 0xA => ⟨"LSR", .legal, (some .accumulator), 1, (some 2), false, .alone .lsrA⟩
  | 0xB => ⟨"ALR", .trap, none, 1, none, false, .alone .alr⟩
  | 0xC => ⟨"JMP", .legal, (some .absolute), 3, (some 3), false, .withWord .jmpAbs⟩
  | 0xD => ⟨"EOR", .legal, (some .absolute), 3, (some 4), false, .withWord .eorAbs⟩
  | 0xE => ⟨"LSR", .legal, (some .absolute), 3, (some 6), false, .withWord .lsrAbs⟩
  | _ => ⟨"SRE", .supported, (some .absolute), 3, (some 6), false, .withWord .sreAbs⟩

/-- Opcodes 50 to 5F of the map (R64), by the low nibble. -/
def descriptorRow5 : Nat → Descriptor
  | 0x0 => ⟨"BVC", .legal, (some .relative), 2, (some 2), false, .withByte .bvc⟩
  | 0x1 => ⟨"EOR", .legal, (some .indirectY), 2, (some 5), true, .withByte .eorIndY⟩
  | 0x2 => ⟨"JAM", .trap, none, 1, none, false, .alone .jam52⟩
  | 0x3 => ⟨"SRE", .supported, (some .indirectY), 2, (some 8), false, .withByte .sreIndY⟩
  | 0x4 => ⟨"NOP", .supported, (some .zeroPageX), 2, (some 4), false, .withByte .nopZpX54⟩
  | 0x5 => ⟨"EOR", .legal, (some .zeroPageX), 2, (some 4), false, .withByte .eorZpX⟩
  | 0x6 => ⟨"LSR", .legal, (some .zeroPageX), 2, (some 6), false, .withByte .lsrZpX⟩
  | 0x7 => ⟨"SRE", .supported, (some .zeroPageX), 2, (some 6), false, .withByte .sreZpX⟩
  | 0x8 => ⟨"CLI", .legal, (some .implied), 1, (some 2), false, .alone .cli⟩
  | 0x9 => ⟨"EOR", .legal, (some .absoluteY), 3, (some 4), true, .withWord .eorAbsY⟩
  | 0xA => ⟨"NOP", .supported, (some .implied), 1, (some 2), false, .alone .nopImp5A⟩
  | 0xB => ⟨"SRE", .supported, (some .absoluteY), 3, (some 7), false, .withWord .sreAbsY⟩
  | 0xC => ⟨"NOP", .supported, (some .absoluteX), 3, (some 4), true, .withWord .nopAbsX5C⟩
  | 0xD => ⟨"EOR", .legal, (some .absoluteX), 3, (some 4), true, .withWord .eorAbsX⟩
  | 0xE => ⟨"LSR", .legal, (some .absoluteX), 3, (some 7), false, .withWord .lsrAbsX⟩
  | _ => ⟨"SRE", .supported, (some .absoluteX), 3, (some 7), false, .withWord .sreAbsX⟩

/-- Opcodes 60 to 6F of the map (R64), by the low nibble. -/
def descriptorRow6 : Nat → Descriptor
  | 0x0 => ⟨"RTS", .legal, (some .implied), 1, (some 6), false, .alone .rts⟩
  | 0x1 => ⟨"ADC", .legal, (some .indirectX), 2, (some 6), false, .withByte .adcIndX⟩
  | 0x2 => ⟨"JAM", .trap, none, 1, none, false, .alone .jam62⟩
  | 0x3 => ⟨"RRA", .supported, (some .indirectX), 2, (some 8), false, .withByte .rraIndX⟩
  | 0x4 => ⟨"NOP", .supported, (some .zeroPage), 2, (some 3), false, .withByte .nopZp64⟩
  | 0x5 => ⟨"ADC", .legal, (some .zeroPage), 2, (some 3), false, .withByte .adcZp⟩
  | 0x6 => ⟨"ROR", .legal, (some .zeroPage), 2, (some 5), false, .withByte .rorZp⟩
  | 0x7 => ⟨"RRA", .supported, (some .zeroPage), 2, (some 5), false, .withByte .rraZp⟩
  | 0x8 => ⟨"PLA", .legal, (some .implied), 1, (some 4), false, .alone .pla⟩
  | 0x9 => ⟨"ADC", .legal, (some .immediate), 2, (some 2), false, .withByte .adcImm⟩
  | 0xA => ⟨"ROR", .legal, (some .accumulator), 1, (some 2), false, .alone .rorA⟩
  | 0xB => ⟨"ARR", .trap, none, 1, none, false, .alone .arr⟩
  | 0xC => ⟨"JMP", .legal, (some .indirect), 3, (some 5), false, .withWord .jmpInd⟩
  | 0xD => ⟨"ADC", .legal, (some .absolute), 3, (some 4), false, .withWord .adcAbs⟩
  | 0xE => ⟨"ROR", .legal, (some .absolute), 3, (some 6), false, .withWord .rorAbs⟩
  | _ => ⟨"RRA", .supported, (some .absolute), 3, (some 6), false, .withWord .rraAbs⟩

/-- Opcodes 70 to 7F of the map (R64), by the low nibble. -/
def descriptorRow7 : Nat → Descriptor
  | 0x0 => ⟨"BVS", .legal, (some .relative), 2, (some 2), false, .withByte .bvs⟩
  | 0x1 => ⟨"ADC", .legal, (some .indirectY), 2, (some 5), true, .withByte .adcIndY⟩
  | 0x2 => ⟨"JAM", .trap, none, 1, none, false, .alone .jam72⟩
  | 0x3 => ⟨"RRA", .supported, (some .indirectY), 2, (some 8), false, .withByte .rraIndY⟩
  | 0x4 => ⟨"NOP", .supported, (some .zeroPageX), 2, (some 4), false, .withByte .nopZpX74⟩
  | 0x5 => ⟨"ADC", .legal, (some .zeroPageX), 2, (some 4), false, .withByte .adcZpX⟩
  | 0x6 => ⟨"ROR", .legal, (some .zeroPageX), 2, (some 6), false, .withByte .rorZpX⟩
  | 0x7 => ⟨"RRA", .supported, (some .zeroPageX), 2, (some 6), false, .withByte .rraZpX⟩
  | 0x8 => ⟨"SEI", .legal, (some .implied), 1, (some 2), false, .alone .sei⟩
  | 0x9 => ⟨"ADC", .legal, (some .absoluteY), 3, (some 4), true, .withWord .adcAbsY⟩
  | 0xA => ⟨"NOP", .supported, (some .implied), 1, (some 2), false, .alone .nopImp7A⟩
  | 0xB => ⟨"RRA", .supported, (some .absoluteY), 3, (some 7), false, .withWord .rraAbsY⟩
  | 0xC => ⟨"NOP", .supported, (some .absoluteX), 3, (some 4), true, .withWord .nopAbsX7C⟩
  | 0xD => ⟨"ADC", .legal, (some .absoluteX), 3, (some 4), true, .withWord .adcAbsX⟩
  | 0xE => ⟨"ROR", .legal, (some .absoluteX), 3, (some 7), false, .withWord .rorAbsX⟩
  | _ => ⟨"RRA", .supported, (some .absoluteX), 3, (some 7), false, .withWord .rraAbsX⟩

/-- Opcodes 80 to 8F of the map (R64), by the low nibble. -/
def descriptorRow8 : Nat → Descriptor
  | 0x0 => ⟨"NOP", .supported, (some .immediate), 2, (some 2), false, .withByte .nopImm80⟩
  | 0x1 => ⟨"STA", .legal, (some .indirectX), 2, (some 6), false, .withByte .staIndX⟩
  | 0x2 => ⟨"NOP", .supported, (some .immediate), 2, (some 2), false, .withByte .nopImm82⟩
  | 0x3 => ⟨"SAX", .supported, (some .indirectX), 2, (some 6), false, .withByte .saxIndX⟩
  | 0x4 => ⟨"STY", .legal, (some .zeroPage), 2, (some 3), false, .withByte .styZp⟩
  | 0x5 => ⟨"STA", .legal, (some .zeroPage), 2, (some 3), false, .withByte .staZp⟩
  | 0x6 => ⟨"STX", .legal, (some .zeroPage), 2, (some 3), false, .withByte .stxZp⟩
  | 0x7 => ⟨"SAX", .supported, (some .zeroPage), 2, (some 3), false, .withByte .saxZp⟩
  | 0x8 => ⟨"DEY", .legal, (some .implied), 1, (some 2), false, .alone .dey⟩
  | 0x9 => ⟨"NOP", .supported, (some .immediate), 2, (some 2), false, .withByte .nopImm89⟩
  | 0xA => ⟨"TXA", .legal, (some .implied), 1, (some 2), false, .alone .txa⟩
  | 0xB => ⟨"XAA", .trap, none, 1, none, false, .alone .xaa⟩
  | 0xC => ⟨"STY", .legal, (some .absolute), 3, (some 4), false, .withWord .styAbs⟩
  | 0xD => ⟨"STA", .legal, (some .absolute), 3, (some 4), false, .withWord .staAbs⟩
  | 0xE => ⟨"STX", .legal, (some .absolute), 3, (some 4), false, .withWord .stxAbs⟩
  | _ => ⟨"SAX", .supported, (some .absolute), 3, (some 4), false, .withWord .saxAbs⟩

/-- Opcodes 90 to 9F of the map (R64), by the low nibble. -/
def descriptorRow9 : Nat → Descriptor
  | 0x0 => ⟨"BCC", .legal, (some .relative), 2, (some 2), false, .withByte .bcc⟩
  | 0x1 => ⟨"STA", .legal, (some .indirectY), 2, (some 6), false, .withByte .staIndY⟩
  | 0x2 => ⟨"JAM", .trap, none, 1, none, false, .alone .jam92⟩
  | 0x3 => ⟨"SHA", .trap, none, 1, none, false, .alone .sha93⟩
  | 0x4 => ⟨"STY", .legal, (some .zeroPageX), 2, (some 4), false, .withByte .styZpX⟩
  | 0x5 => ⟨"STA", .legal, (some .zeroPageX), 2, (some 4), false, .withByte .staZpX⟩
  | 0x6 => ⟨"STX", .legal, (some .zeroPageY), 2, (some 4), false, .withByte .stxZpY⟩
  | 0x7 => ⟨"SAX", .supported, (some .zeroPageY), 2, (some 4), false, .withByte .saxZpY⟩
  | 0x8 => ⟨"TYA", .legal, (some .implied), 1, (some 2), false, .alone .tya⟩
  | 0x9 => ⟨"STA", .legal, (some .absoluteY), 3, (some 5), false, .withWord .staAbsY⟩
  | 0xA => ⟨"TXS", .legal, (some .implied), 1, (some 2), false, .alone .txs⟩
  | 0xB => ⟨"TAS", .trap, none, 1, none, false, .alone .tas⟩
  | 0xC => ⟨"SHY", .trap, none, 1, none, false, .alone .shy⟩
  | 0xD => ⟨"STA", .legal, (some .absoluteX), 3, (some 5), false, .withWord .staAbsX⟩
  | 0xE => ⟨"SHX", .trap, none, 1, none, false, .alone .shx⟩
  | _ => ⟨"SHA", .trap, none, 1, none, false, .alone .sha9F⟩

/-- Opcodes A0 to AF of the map (R64), by the low nibble. -/
def descriptorRowA : Nat → Descriptor
  | 0x0 => ⟨"LDY", .legal, (some .immediate), 2, (some 2), false, .withByte .ldyImm⟩
  | 0x1 => ⟨"LDA", .legal, (some .indirectX), 2, (some 6), false, .withByte .ldaIndX⟩
  | 0x2 => ⟨"LDX", .legal, (some .immediate), 2, (some 2), false, .withByte .ldxImm⟩
  | 0x3 => ⟨"LAX", .supported, (some .indirectX), 2, (some 6), false, .withByte .laxIndX⟩
  | 0x4 => ⟨"LDY", .legal, (some .zeroPage), 2, (some 3), false, .withByte .ldyZp⟩
  | 0x5 => ⟨"LDA", .legal, (some .zeroPage), 2, (some 3), false, .withByte .ldaZp⟩
  | 0x6 => ⟨"LDX", .legal, (some .zeroPage), 2, (some 3), false, .withByte .ldxZp⟩
  | 0x7 => ⟨"LAX", .supported, (some .zeroPage), 2, (some 3), false, .withByte .laxZp⟩
  | 0x8 => ⟨"TAY", .legal, (some .implied), 1, (some 2), false, .alone .tay⟩
  | 0x9 => ⟨"LDA", .legal, (some .immediate), 2, (some 2), false, .withByte .ldaImm⟩
  | 0xA => ⟨"TAX", .legal, (some .implied), 1, (some 2), false, .alone .tax⟩
  | 0xB => ⟨"LXA", .trap, none, 1, none, false, .alone .lxa⟩
  | 0xC => ⟨"LDY", .legal, (some .absolute), 3, (some 4), false, .withWord .ldyAbs⟩
  | 0xD => ⟨"LDA", .legal, (some .absolute), 3, (some 4), false, .withWord .ldaAbs⟩
  | 0xE => ⟨"LDX", .legal, (some .absolute), 3, (some 4), false, .withWord .ldxAbs⟩
  | _ => ⟨"LAX", .supported, (some .absolute), 3, (some 4), false, .withWord .laxAbs⟩

/-- Opcodes B0 to BF of the map (R64), by the low nibble. -/
def descriptorRowB : Nat → Descriptor
  | 0x0 => ⟨"BCS", .legal, (some .relative), 2, (some 2), false, .withByte .bcs⟩
  | 0x1 => ⟨"LDA", .legal, (some .indirectY), 2, (some 5), true, .withByte .ldaIndY⟩
  | 0x2 => ⟨"JAM", .trap, none, 1, none, false, .alone .jamB2⟩
  | 0x3 => ⟨"LAX", .supported, (some .indirectY), 2, (some 5), true, .withByte .laxIndY⟩
  | 0x4 => ⟨"LDY", .legal, (some .zeroPageX), 2, (some 4), false, .withByte .ldyZpX⟩
  | 0x5 => ⟨"LDA", .legal, (some .zeroPageX), 2, (some 4), false, .withByte .ldaZpX⟩
  | 0x6 => ⟨"LDX", .legal, (some .zeroPageY), 2, (some 4), false, .withByte .ldxZpY⟩
  | 0x7 => ⟨"LAX", .supported, (some .zeroPageY), 2, (some 4), false, .withByte .laxZpY⟩
  | 0x8 => ⟨"CLV", .legal, (some .implied), 1, (some 2), false, .alone .clv⟩
  | 0x9 => ⟨"LDA", .legal, (some .absoluteY), 3, (some 4), true, .withWord .ldaAbsY⟩
  | 0xA => ⟨"TSX", .legal, (some .implied), 1, (some 2), false, .alone .tsx⟩
  | 0xB => ⟨"LAS", .trap, none, 1, none, false, .alone .las⟩
  | 0xC => ⟨"LDY", .legal, (some .absoluteX), 3, (some 4), true, .withWord .ldyAbsX⟩
  | 0xD => ⟨"LDA", .legal, (some .absoluteX), 3, (some 4), true, .withWord .ldaAbsX⟩
  | 0xE => ⟨"LDX", .legal, (some .absoluteY), 3, (some 4), true, .withWord .ldxAbsY⟩
  | _ => ⟨"LAX", .supported, (some .absoluteY), 3, (some 4), true, .withWord .laxAbsY⟩

/-- Opcodes C0 to CF of the map (R64), by the low nibble. -/
def descriptorRowC : Nat → Descriptor
  | 0x0 => ⟨"CPY", .legal, (some .immediate), 2, (some 2), false, .withByte .cpyImm⟩
  | 0x1 => ⟨"CMP", .legal, (some .indirectX), 2, (some 6), false, .withByte .cmpIndX⟩
  | 0x2 => ⟨"NOP", .supported, (some .immediate), 2, (some 2), false, .withByte .nopImmC2⟩
  | 0x3 => ⟨"DCP", .supported, (some .indirectX), 2, (some 8), false, .withByte .dcpIndX⟩
  | 0x4 => ⟨"CPY", .legal, (some .zeroPage), 2, (some 3), false, .withByte .cpyZp⟩
  | 0x5 => ⟨"CMP", .legal, (some .zeroPage), 2, (some 3), false, .withByte .cmpZp⟩
  | 0x6 => ⟨"DEC", .legal, (some .zeroPage), 2, (some 5), false, .withByte .decZp⟩
  | 0x7 => ⟨"DCP", .supported, (some .zeroPage), 2, (some 5), false, .withByte .dcpZp⟩
  | 0x8 => ⟨"INY", .legal, (some .implied), 1, (some 2), false, .alone .iny⟩
  | 0x9 => ⟨"CMP", .legal, (some .immediate), 2, (some 2), false, .withByte .cmpImm⟩
  | 0xA => ⟨"DEX", .legal, (some .implied), 1, (some 2), false, .alone .dex⟩
  | 0xB => ⟨"SBX", .trap, none, 1, none, false, .alone .sbx⟩
  | 0xC => ⟨"CPY", .legal, (some .absolute), 3, (some 4), false, .withWord .cpyAbs⟩
  | 0xD => ⟨"CMP", .legal, (some .absolute), 3, (some 4), false, .withWord .cmpAbs⟩
  | 0xE => ⟨"DEC", .legal, (some .absolute), 3, (some 6), false, .withWord .decAbs⟩
  | _ => ⟨"DCP", .supported, (some .absolute), 3, (some 6), false, .withWord .dcpAbs⟩

/-- Opcodes D0 to DF of the map (R64), by the low nibble. -/
def descriptorRowD : Nat → Descriptor
  | 0x0 => ⟨"BNE", .legal, (some .relative), 2, (some 2), false, .withByte .bne⟩
  | 0x1 => ⟨"CMP", .legal, (some .indirectY), 2, (some 5), true, .withByte .cmpIndY⟩
  | 0x2 => ⟨"JAM", .trap, none, 1, none, false, .alone .jamD2⟩
  | 0x3 => ⟨"DCP", .supported, (some .indirectY), 2, (some 8), false, .withByte .dcpIndY⟩
  | 0x4 => ⟨"NOP", .supported, (some .zeroPageX), 2, (some 4), false, .withByte .nopZpXD4⟩
  | 0x5 => ⟨"CMP", .legal, (some .zeroPageX), 2, (some 4), false, .withByte .cmpZpX⟩
  | 0x6 => ⟨"DEC", .legal, (some .zeroPageX), 2, (some 6), false, .withByte .decZpX⟩
  | 0x7 => ⟨"DCP", .supported, (some .zeroPageX), 2, (some 6), false, .withByte .dcpZpX⟩
  | 0x8 => ⟨"CLD", .legal, (some .implied), 1, (some 2), false, .alone .cld⟩
  | 0x9 => ⟨"CMP", .legal, (some .absoluteY), 3, (some 4), true, .withWord .cmpAbsY⟩
  | 0xA => ⟨"NOP", .supported, (some .implied), 1, (some 2), false, .alone .nopImpDA⟩
  | 0xB => ⟨"DCP", .supported, (some .absoluteY), 3, (some 7), false, .withWord .dcpAbsY⟩
  | 0xC => ⟨"NOP", .supported, (some .absoluteX), 3, (some 4), true, .withWord .nopAbsXDC⟩
  | 0xD => ⟨"CMP", .legal, (some .absoluteX), 3, (some 4), true, .withWord .cmpAbsX⟩
  | 0xE => ⟨"DEC", .legal, (some .absoluteX), 3, (some 7), false, .withWord .decAbsX⟩
  | _ => ⟨"DCP", .supported, (some .absoluteX), 3, (some 7), false, .withWord .dcpAbsX⟩

/-- Opcodes E0 to EF of the map (R64), by the low nibble. -/
def descriptorRowE : Nat → Descriptor
  | 0x0 => ⟨"CPX", .legal, (some .immediate), 2, (some 2), false, .withByte .cpxImm⟩
  | 0x1 => ⟨"SBC", .legal, (some .indirectX), 2, (some 6), false, .withByte .sbcIndX⟩
  | 0x2 => ⟨"NOP", .supported, (some .immediate), 2, (some 2), false, .withByte .nopImmE2⟩
  | 0x3 => ⟨"ISB", .supported, (some .indirectX), 2, (some 8), false, .withByte .isbIndX⟩
  | 0x4 => ⟨"CPX", .legal, (some .zeroPage), 2, (some 3), false, .withByte .cpxZp⟩
  | 0x5 => ⟨"SBC", .legal, (some .zeroPage), 2, (some 3), false, .withByte .sbcZp⟩
  | 0x6 => ⟨"INC", .legal, (some .zeroPage), 2, (some 5), false, .withByte .incZp⟩
  | 0x7 => ⟨"ISB", .supported, (some .zeroPage), 2, (some 5), false, .withByte .isbZp⟩
  | 0x8 => ⟨"INX", .legal, (some .implied), 1, (some 2), false, .alone .inx⟩
  | 0x9 => ⟨"SBC", .legal, (some .immediate), 2, (some 2), false, .withByte .sbcImm⟩
  | 0xA => ⟨"NOP", .legal, (some .implied), 1, (some 2), false, .alone .nop⟩
  | 0xB => ⟨"SBC", .supported, (some .immediate), 2, (some 2), false, .withByte .sbcImmEB⟩
  | 0xC => ⟨"CPX", .legal, (some .absolute), 3, (some 4), false, .withWord .cpxAbs⟩
  | 0xD => ⟨"SBC", .legal, (some .absolute), 3, (some 4), false, .withWord .sbcAbs⟩
  | 0xE => ⟨"INC", .legal, (some .absolute), 3, (some 6), false, .withWord .incAbs⟩
  | _ => ⟨"ISB", .supported, (some .absolute), 3, (some 6), false, .withWord .isbAbs⟩

/-- Opcodes F0 to FF of the map (R64), by the low nibble. -/
def descriptorRowF : Nat → Descriptor
  | 0x0 => ⟨"BEQ", .legal, (some .relative), 2, (some 2), false, .withByte .beq⟩
  | 0x1 => ⟨"SBC", .legal, (some .indirectY), 2, (some 5), true, .withByte .sbcIndY⟩
  | 0x2 => ⟨"JAM", .trap, none, 1, none, false, .alone .jamF2⟩
  | 0x3 => ⟨"ISB", .supported, (some .indirectY), 2, (some 8), false, .withByte .isbIndY⟩
  | 0x4 => ⟨"NOP", .supported, (some .zeroPageX), 2, (some 4), false, .withByte .nopZpXF4⟩
  | 0x5 => ⟨"SBC", .legal, (some .zeroPageX), 2, (some 4), false, .withByte .sbcZpX⟩
  | 0x6 => ⟨"INC", .legal, (some .zeroPageX), 2, (some 6), false, .withByte .incZpX⟩
  | 0x7 => ⟨"ISB", .supported, (some .zeroPageX), 2, (some 6), false, .withByte .isbZpX⟩
  | 0x8 => ⟨"SED", .legal, (some .implied), 1, (some 2), false, .alone .sed⟩
  | 0x9 => ⟨"SBC", .legal, (some .absoluteY), 3, (some 4), true, .withWord .sbcAbsY⟩
  | 0xA => ⟨"NOP", .supported, (some .implied), 1, (some 2), false, .alone .nopImpFA⟩
  | 0xB => ⟨"ISB", .supported, (some .absoluteY), 3, (some 7), false, .withWord .isbAbsY⟩
  | 0xC => ⟨"NOP", .supported, (some .absoluteX), 3, (some 4), true, .withWord .nopAbsXFC⟩
  | 0xD => ⟨"SBC", .legal, (some .absoluteX), 3, (some 4), true, .withWord .sbcAbsX⟩
  | 0xE => ⟨"INC", .legal, (some .absoluteX), 3, (some 7), false, .withWord .incAbsX⟩
  | _ => ⟨"ISB", .supported, (some .absoluteX), 3, (some 7), false, .withWord .isbAbsX⟩

/-- The descriptor of an opcode byte: high nibble, then low nibble, as the map of R64 is laid out. -/
def descriptor (op : Byte) : Descriptor :=
  match op.toNat / 16 with
  | 0x0 => descriptorRow0 (op.toNat % 16)
  | 0x1 => descriptorRow1 (op.toNat % 16)
  | 0x2 => descriptorRow2 (op.toNat % 16)
  | 0x3 => descriptorRow3 (op.toNat % 16)
  | 0x4 => descriptorRow4 (op.toNat % 16)
  | 0x5 => descriptorRow5 (op.toNat % 16)
  | 0x6 => descriptorRow6 (op.toNat % 16)
  | 0x7 => descriptorRow7 (op.toNat % 16)
  | 0x8 => descriptorRow8 (op.toNat % 16)
  | 0x9 => descriptorRow9 (op.toNat % 16)
  | 0xA => descriptorRowA (op.toNat % 16)
  | 0xB => descriptorRowB (op.toNat % 16)
  | 0xC => descriptorRowC (op.toNat % 16)
  | 0xD => descriptorRowD (op.toNat % 16)
  | 0xE => descriptorRowE (op.toNat % 16)
  | _ => descriptorRowF (op.toNat % 16)

/-- The base cycle count of an opcode (R95). Only opcodes that return a count are asked for it; a trap slot has none. -/
def baseCycles (op : Byte) : Nat := (descriptor op).cycles.getD 0

/-- The count of an instruction that is not a branch: the base count, and one more where the row takes the page-cross
penalty and the resolver crossed a page (40_addressing.md R95, R96). -/
def cyclesOf (op : Byte) (crossed : Bool) : Nat :=
  baseCycles op + if (descriptor op).pageCross && crossed then 1 else 0

/-- How many operand bytes are read after an opcode: none for BRK's padding byte (20_memory.md R46) and for a trap slot
(46_illegal.md R202). -/
def Form.operandBytes : Form → Nat
  | .alone _ => 0
  | .padded _ => 0
  | .withByte _ => 1
  | .withWord _ => 2

/-- The instruction of a form and two operand bytes, of which only those the form has are used (R63). -/
def Form.instr : Form → Byte → Byte → Instr
  | .alone i, _, _ => i
  | .padded i, _, _ => i
  | .withByte f, b1, _ => f b1
  | .withWord f, b1, b2 => f (word b2 b1)

/-- The instruction of an opcode byte and the two bytes after it: every byte is some row's opcode and no operand byte is
reserved, so this is total (R65, R66). -/
def decodeBytes (op b1 b2 : Byte) : Instr := (descriptor op).form.instr b1 b2

/-- Why a list of bytes holds no whole instruction. -/
inductive DecodeError where
  /-- there is no opcode byte -/
  | noOpcode
  /-- the opcode's operand bytes are not all there -/
  | missingOperand (op : Byte)
  deriving DecidableEq, Repr

/-- Decode the first instruction of a list of bytes, and give the bytes after it. BRK skips its padding byte where there
is one. -/
def decode : List Byte → Except DecodeError (Instr × List Byte)
  | [] => .error .noOpcode
  | op :: rest =>
    match (descriptor op).form, rest with
    | .alone i, _ => .ok (i, rest)
    | .padded i, _ => .ok (i, rest.drop 1)
    | .withByte f, b1 :: rest' => .ok (f b1, rest')
    | .withWord f, b1 :: b2 :: rest' => .ok (f (word b2 b1), rest')
    | _, _ => .error (.missingOperand op)

/-- The bytes of an instruction, opcode first (R60, R63, R64). The padding byte of BRK is written 0x00 (log 9). -/
def encode : Instr → List Byte
  | .brk => [0x00, 0x00]
  | .oraIndX z => [0x01, z]
  | .jam02 => [0x02]
  | .sloIndX z => [0x03, z]
  | .nopZp04 z => [0x04, z]
  | .oraZp z => [0x05, z]
  | .aslZp z => [0x06, z]
  | .sloZp z => [0x07, z]
  | .php => [0x08]
  | .oraImm v => [0x09, v]
  | .aslA => [0x0A]
  | .anc0B => [0x0B]
  | .nopAbs0C w => [0x0C, lo w, hi w]
  | .oraAbs w => [0x0D, lo w, hi w]
  | .aslAbs w => [0x0E, lo w, hi w]
  | .sloAbs w => [0x0F, lo w, hi w]
  | .bpl off => [0x10, off]
  | .oraIndY z => [0x11, z]
  | .jam12 => [0x12]
  | .sloIndY z => [0x13, z]
  | .nopZpX14 z => [0x14, z]
  | .oraZpX z => [0x15, z]
  | .aslZpX z => [0x16, z]
  | .sloZpX z => [0x17, z]
  | .clc => [0x18]
  | .oraAbsY w => [0x19, lo w, hi w]
  | .nopImp1A => [0x1A]
  | .sloAbsY w => [0x1B, lo w, hi w]
  | .nopAbsX1C w => [0x1C, lo w, hi w]
  | .oraAbsX w => [0x1D, lo w, hi w]
  | .aslAbsX w => [0x1E, lo w, hi w]
  | .sloAbsX w => [0x1F, lo w, hi w]
  | .jsr w => [0x20, lo w, hi w]
  | .andIndX z => [0x21, z]
  | .jam22 => [0x22]
  | .rlaIndX z => [0x23, z]
  | .bitZp z => [0x24, z]
  | .andZp z => [0x25, z]
  | .rolZp z => [0x26, z]
  | .rlaZp z => [0x27, z]
  | .plp => [0x28]
  | .andImm v => [0x29, v]
  | .rolA => [0x2A]
  | .anc2B => [0x2B]
  | .bitAbs w => [0x2C, lo w, hi w]
  | .andAbs w => [0x2D, lo w, hi w]
  | .rolAbs w => [0x2E, lo w, hi w]
  | .rlaAbs w => [0x2F, lo w, hi w]
  | .bmi off => [0x30, off]
  | .andIndY z => [0x31, z]
  | .jam32 => [0x32]
  | .rlaIndY z => [0x33, z]
  | .nopZpX34 z => [0x34, z]
  | .andZpX z => [0x35, z]
  | .rolZpX z => [0x36, z]
  | .rlaZpX z => [0x37, z]
  | .sec => [0x38]
  | .andAbsY w => [0x39, lo w, hi w]
  | .nopImp3A => [0x3A]
  | .rlaAbsY w => [0x3B, lo w, hi w]
  | .nopAbsX3C w => [0x3C, lo w, hi w]
  | .andAbsX w => [0x3D, lo w, hi w]
  | .rolAbsX w => [0x3E, lo w, hi w]
  | .rlaAbsX w => [0x3F, lo w, hi w]
  | .rti => [0x40]
  | .eorIndX z => [0x41, z]
  | .jam42 => [0x42]
  | .sreIndX z => [0x43, z]
  | .nopZp44 z => [0x44, z]
  | .eorZp z => [0x45, z]
  | .lsrZp z => [0x46, z]
  | .sreZp z => [0x47, z]
  | .pha => [0x48]
  | .eorImm v => [0x49, v]
  | .lsrA => [0x4A]
  | .alr => [0x4B]
  | .jmpAbs w => [0x4C, lo w, hi w]
  | .eorAbs w => [0x4D, lo w, hi w]
  | .lsrAbs w => [0x4E, lo w, hi w]
  | .sreAbs w => [0x4F, lo w, hi w]
  | .bvc off => [0x50, off]
  | .eorIndY z => [0x51, z]
  | .jam52 => [0x52]
  | .sreIndY z => [0x53, z]
  | .nopZpX54 z => [0x54, z]
  | .eorZpX z => [0x55, z]
  | .lsrZpX z => [0x56, z]
  | .sreZpX z => [0x57, z]
  | .cli => [0x58]
  | .eorAbsY w => [0x59, lo w, hi w]
  | .nopImp5A => [0x5A]
  | .sreAbsY w => [0x5B, lo w, hi w]
  | .nopAbsX5C w => [0x5C, lo w, hi w]
  | .eorAbsX w => [0x5D, lo w, hi w]
  | .lsrAbsX w => [0x5E, lo w, hi w]
  | .sreAbsX w => [0x5F, lo w, hi w]
  | .rts => [0x60]
  | .adcIndX z => [0x61, z]
  | .jam62 => [0x62]
  | .rraIndX z => [0x63, z]
  | .nopZp64 z => [0x64, z]
  | .adcZp z => [0x65, z]
  | .rorZp z => [0x66, z]
  | .rraZp z => [0x67, z]
  | .pla => [0x68]
  | .adcImm v => [0x69, v]
  | .rorA => [0x6A]
  | .arr => [0x6B]
  | .jmpInd w => [0x6C, lo w, hi w]
  | .adcAbs w => [0x6D, lo w, hi w]
  | .rorAbs w => [0x6E, lo w, hi w]
  | .rraAbs w => [0x6F, lo w, hi w]
  | .bvs off => [0x70, off]
  | .adcIndY z => [0x71, z]
  | .jam72 => [0x72]
  | .rraIndY z => [0x73, z]
  | .nopZpX74 z => [0x74, z]
  | .adcZpX z => [0x75, z]
  | .rorZpX z => [0x76, z]
  | .rraZpX z => [0x77, z]
  | .sei => [0x78]
  | .adcAbsY w => [0x79, lo w, hi w]
  | .nopImp7A => [0x7A]
  | .rraAbsY w => [0x7B, lo w, hi w]
  | .nopAbsX7C w => [0x7C, lo w, hi w]
  | .adcAbsX w => [0x7D, lo w, hi w]
  | .rorAbsX w => [0x7E, lo w, hi w]
  | .rraAbsX w => [0x7F, lo w, hi w]
  | .nopImm80 v => [0x80, v]
  | .staIndX z => [0x81, z]
  | .nopImm82 v => [0x82, v]
  | .saxIndX z => [0x83, z]
  | .styZp z => [0x84, z]
  | .staZp z => [0x85, z]
  | .stxZp z => [0x86, z]
  | .saxZp z => [0x87, z]
  | .dey => [0x88]
  | .nopImm89 v => [0x89, v]
  | .txa => [0x8A]
  | .xaa => [0x8B]
  | .styAbs w => [0x8C, lo w, hi w]
  | .staAbs w => [0x8D, lo w, hi w]
  | .stxAbs w => [0x8E, lo w, hi w]
  | .saxAbs w => [0x8F, lo w, hi w]
  | .bcc off => [0x90, off]
  | .staIndY z => [0x91, z]
  | .jam92 => [0x92]
  | .sha93 => [0x93]
  | .styZpX z => [0x94, z]
  | .staZpX z => [0x95, z]
  | .stxZpY z => [0x96, z]
  | .saxZpY z => [0x97, z]
  | .tya => [0x98]
  | .staAbsY w => [0x99, lo w, hi w]
  | .txs => [0x9A]
  | .tas => [0x9B]
  | .shy => [0x9C]
  | .staAbsX w => [0x9D, lo w, hi w]
  | .shx => [0x9E]
  | .sha9F => [0x9F]
  | .ldyImm v => [0xA0, v]
  | .ldaIndX z => [0xA1, z]
  | .ldxImm v => [0xA2, v]
  | .laxIndX z => [0xA3, z]
  | .ldyZp z => [0xA4, z]
  | .ldaZp z => [0xA5, z]
  | .ldxZp z => [0xA6, z]
  | .laxZp z => [0xA7, z]
  | .tay => [0xA8]
  | .ldaImm v => [0xA9, v]
  | .tax => [0xAA]
  | .lxa => [0xAB]
  | .ldyAbs w => [0xAC, lo w, hi w]
  | .ldaAbs w => [0xAD, lo w, hi w]
  | .ldxAbs w => [0xAE, lo w, hi w]
  | .laxAbs w => [0xAF, lo w, hi w]
  | .bcs off => [0xB0, off]
  | .ldaIndY z => [0xB1, z]
  | .jamB2 => [0xB2]
  | .laxIndY z => [0xB3, z]
  | .ldyZpX z => [0xB4, z]
  | .ldaZpX z => [0xB5, z]
  | .ldxZpY z => [0xB6, z]
  | .laxZpY z => [0xB7, z]
  | .clv => [0xB8]
  | .ldaAbsY w => [0xB9, lo w, hi w]
  | .tsx => [0xBA]
  | .las => [0xBB]
  | .ldyAbsX w => [0xBC, lo w, hi w]
  | .ldaAbsX w => [0xBD, lo w, hi w]
  | .ldxAbsY w => [0xBE, lo w, hi w]
  | .laxAbsY w => [0xBF, lo w, hi w]
  | .cpyImm v => [0xC0, v]
  | .cmpIndX z => [0xC1, z]
  | .nopImmC2 v => [0xC2, v]
  | .dcpIndX z => [0xC3, z]
  | .cpyZp z => [0xC4, z]
  | .cmpZp z => [0xC5, z]
  | .decZp z => [0xC6, z]
  | .dcpZp z => [0xC7, z]
  | .iny => [0xC8]
  | .cmpImm v => [0xC9, v]
  | .dex => [0xCA]
  | .sbx => [0xCB]
  | .cpyAbs w => [0xCC, lo w, hi w]
  | .cmpAbs w => [0xCD, lo w, hi w]
  | .decAbs w => [0xCE, lo w, hi w]
  | .dcpAbs w => [0xCF, lo w, hi w]
  | .bne off => [0xD0, off]
  | .cmpIndY z => [0xD1, z]
  | .jamD2 => [0xD2]
  | .dcpIndY z => [0xD3, z]
  | .nopZpXD4 z => [0xD4, z]
  | .cmpZpX z => [0xD5, z]
  | .decZpX z => [0xD6, z]
  | .dcpZpX z => [0xD7, z]
  | .cld => [0xD8]
  | .cmpAbsY w => [0xD9, lo w, hi w]
  | .nopImpDA => [0xDA]
  | .dcpAbsY w => [0xDB, lo w, hi w]
  | .nopAbsXDC w => [0xDC, lo w, hi w]
  | .cmpAbsX w => [0xDD, lo w, hi w]
  | .decAbsX w => [0xDE, lo w, hi w]
  | .dcpAbsX w => [0xDF, lo w, hi w]
  | .cpxImm v => [0xE0, v]
  | .sbcIndX z => [0xE1, z]
  | .nopImmE2 v => [0xE2, v]
  | .isbIndX z => [0xE3, z]
  | .cpxZp z => [0xE4, z]
  | .sbcZp z => [0xE5, z]
  | .incZp z => [0xE6, z]
  | .isbZp z => [0xE7, z]
  | .inx => [0xE8]
  | .sbcImm v => [0xE9, v]
  | .nop => [0xEA]
  | .sbcImmEB v => [0xEB, v]
  | .cpxAbs w => [0xEC, lo w, hi w]
  | .sbcAbs w => [0xED, lo w, hi w]
  | .incAbs w => [0xEE, lo w, hi w]
  | .isbAbs w => [0xEF, lo w, hi w]
  | .beq off => [0xF0, off]
  | .sbcIndY z => [0xF1, z]
  | .jamF2 => [0xF2]
  | .isbIndY z => [0xF3, z]
  | .nopZpXF4 z => [0xF4, z]
  | .sbcZpX z => [0xF5, z]
  | .incZpX z => [0xF6, z]
  | .isbZpX z => [0xF7, z]
  | .sed => [0xF8]
  | .sbcAbsY w => [0xF9, lo w, hi w]
  | .nopImpFA => [0xFA]
  | .isbAbsY w => [0xFB, lo w, hi w]
  | .nopAbsXFC w => [0xFC, lo w, hi w]
  | .sbcAbsX w => [0xFD, lo w, hi w]
  | .incAbsX w => [0xFE, lo w, hi w]
  | .isbAbsX w => [0xFF, lo w, hi w]

/-- The opcode byte of an instruction. -/
def Instr.opcode (i : Instr) : Byte := (encode i).headD 0x00

/-- The `k`-th byte of a number, the first byte its least significant. -/
def byteOf (w k : Nat) : Byte := BitVec.ofNat 8 (w / 256 ^ k)

/-- The instruction the decoder reads from bits numbered as opcode_table.json numbers them; the bits from `nbits` on are
zero. -/
def decodeTableWord (nbits w : Nat) : Option Instr :=
  let w' := w % 2 ^ nbits
  match decode [byteOf w' 0, byteOf w' 1, byteOf w' 2] with
  | .ok (i, _) => some i
  | .error _ => none

end Sys2Proof
end

