-- ==== Sys2Proof/Machine/Flags.lean ====
section
/-! DEFINITION. The status register P: its bits (spec/10_state.md R27 to R34), the bytes in which it is pushed and
pulled (R33, R35), and every flag computation (R28, 42_arithmetic_logic.md R120, R121, R130). -/

namespace Sys2Proof.Machine

open Sys2Proof

/-- The byte whose bit `i` is `b` and whose other bits are 0. -/
def bit (b : Bool) (i : Nat) : Byte := if b then (1 : Byte) <<< i else 0

/-- `p` with bit `i` set to `b`. -/
def setBit (p : Byte) (i : Nat) (b : Bool) : Byte := (p &&& ~~~((1 : Byte) <<< i)) ||| bit b i

/-- Carry, bit 0 (R29). -/
def flagC (p : Byte) : Bool := p.getLsbD 0
/-- Zero, bit 1 (R28). -/
def flagZ (p : Byte) : Bool := p.getLsbD 1
/-- InterruptDisable, bit 2 (R31). -/
def flagI (p : Byte) : Bool := p.getLsbD 2
/-- Decimal, bit 3 (R32). -/
def flagD (p : Byte) : Bool := p.getLsbD 3
/-- Break, bit 4 (R33). -/
def flagB (p : Byte) : Bool := p.getLsbD 4
/-- Unused, bit 5 as stored; P is read through `status`, in which it is 1 (R34). -/
def flagU (p : Byte) : Bool := p.getLsbD 5
/-- Overflow, bit 6 (R30). -/
def flagV (p : Byte) : Bool := p.getLsbD 6
/-- Negative, bit 7 (R28). -/
def flagN (p : Byte) : Bool := p.getLsbD 7

def setC (b : Bool) (p : Byte) : Byte := setBit p 0 b
def setZ (b : Bool) (p : Byte) : Byte := setBit p 1 b
def setI (b : Bool) (p : Byte) : Byte := setBit p 2 b
def setD (b : Bool) (p : Byte) : Byte := setBit p 3 b
def setV (b : Bool) (p : Byte) : Byte := setBit p 6 b
def setN (b : Bool) (p : Byte) : Byte := setBit p 7 b

/-- P as it reads: bit 5 is 1 (R34, R37). -/
def status (p : Byte) : Byte := p ||| 0x20

/-- The byte PHP and BRK push: B = 1, U = 1 (R35). -/
def statusPushedByBreak (p : Byte) : Byte := p ||| 0x30

/-- The byte NMI and IRQ entry push: B = 0, U = 1 (R35). -/
def statusPushedByInterrupt (p : Byte) : Byte := (p &&& 0xEF) ||| 0x20

/-- P after PLP pulled `v`: the live B is kept, U is 1 (R33, 45_stack_status_system.md R173). -/
def statusPulledByPlp (v p : Byte) : Byte := (v &&& 0xCF) ||| (p &&& 0x10) ||| 0x20

/-- P after RTI pulled `v`: U is 1, B is the pulled one (R33, 45_stack_status_system.md R182, D6). -/
def statusPulledByRti (v : Byte) : Byte := v ||| 0x20

/-- Z and N from a result byte (R28). -/
def setZN (v : Byte) (p : Byte) : Byte := setN (v.getLsbD 7) (setZ (v == 0) p)

/-- The adder's outputs. -/
structure Sum where
  result : Byte
  carry : Bool
  overflow : Bool
  deriving DecidableEq, Repr

/-- The adder: the exact sum, its low byte, the carry out of it, and the sign mismatch between inputs and output
(42_arithmetic_logic.md R120). It reads nothing but its arguments (R137). -/
def addWithCarry (a b : Byte) (c : Bool) : Sum :=
  let sum := a.toNat + b.toNat + c.toNat
  let r := BitVec.ofNat 8 sum
  { result := r, carry := decide (sum > 255), overflow := (r ^^^ a) &&& (r ^^^ b) &&& 0x80 != 0 }

/-- C, V, Z and N from the adder (R120). -/
def setAdder (sum : Sum) (p : Byte) : Byte := setZN sum.result (setV sum.overflow (setC sum.carry p))

/-- The comparator: C is `reg >= m` unsigned, Z is equality, N is bit 7 of the difference; V is left alone (R121). -/
def setCompare (reg m : Byte) (p : Byte) : Byte :=
  setN ((reg - m).getLsbD 7) (setZ (reg == m) (setC (decide (m.toNat ≤ reg.toNat)) p))

/-- BIT's flags: Z from `A & M`, N and V from bits 7 and 6 of M (R130, 90_conflicts.md C1). -/
def setBitTest (a m : Byte) (p : Byte) : Byte :=
  setV (m.getLsbD 6) (setN (m.getLsbD 7) (setZ (a &&& m == 0) p))

end Sys2Proof.Machine
end

