-- ==== Sys2Proof/Config.lean ====
section
/-! DEFINITION. What the spec fixes for the whole machine, and the values the model names where the spec names none.
The spec leaves no instruction's result undefined, so no constant here is a free value. -/

namespace Sys2Proof.Config

/-- What a byte of memory that nothing has written reads as.
DESIGN CHOICE (log 2, unsafe): the spec leaves the bus's contents a parameter (20_memory.md R48, D15). -/
def unlistedByte : Byte := 0x00

/-- A at construction. DESIGN CHOICE (log 3, unsafe): the spec's parameter `init_a` (10_state.md R39, D8). -/
def initA : Byte := 0x00

/-- X at construction. DESIGN CHOICE (log 3, unsafe): the spec's parameter `init_x` (R39, D8). -/
def initX : Byte := 0x00

/-- Y at construction. DESIGN CHOICE (log 3, unsafe): the spec's parameter `init_y` (R39, D8). -/
def initY : Byte := 0x00

/-- SP at construction (R39). -/
def initSp : Byte := 0xFD

/-- P at construction: U and I set (R39). -/
def initP : Byte := 0x24

/-- The base of the stack page (10_state.md R25, 20_memory.md R48). -/
def stackPage : Addr := 0x0100

/-- Where the NMI vector stands (20_memory.md R48). -/
def nmiVector : Addr := 0xFFFA

/-- Where the RESET vector stands (R48). -/
def resetVector : Addr := 0xFFFC

/-- Where the vector shared by IRQ and BRK stands (R48, 60_exceptions.md R213). -/
def irqVector : Addr := 0xFFFE

/-- The cycles `reset()`, `nmi()` and a taken `irq()` return (70_reset_and_hazards.md R241, 60_exceptions.md R215, R216). -/
def entryCycles : Nat := 7

end Sys2Proof.Config
end

