-- ==== Sys2Proof/Machine/State.lean ====
section
/-! DEFINITION. The state of the core and of its surroundings, as plain data; the reasons a step can stop; the state
after construction and after reset. -/

namespace Sys2Proof.Machine

open Sys2Proof

/-- Memory: the bytes that differ from what an unlisted byte reads as, by rising address. Its operations and its
well-formedness are in Machine/Ops.lean. -/
abbrev Memory := List Host.Cell

/-- The register file as `get_registers()` and the Fatal record show it (10_state.md R20, R37, 60_exceptions.md R210).
`pc` is none before the first `reset()`, when PC has no value (70_reset_and_hazards.md R242). -/
structure Registers where
  pc : Option Addr
  sp : Byte
  a : Byte
  x : Byte
  y : Byte
  p : Byte
  deriving DecidableEq, Repr

/-- The record a Fatal leaves: the opcode byte, the address of the trap opcode and the registers as they were
(60_exceptions.md R210). -/
structure FatalRecord where
  opcode : Byte
  pc : Addr
  registers : Registers
  deriving DecidableEq, Repr

/-- How the bus answers one access (20_memory.md R40, R43; log 1). `ram`: as plain RAM. `device v`: a read returns `v`,
and a write changes no byte of RAM (a ROM, an unmapped address, a device register). -/
inductive BusReply where
  | ram
  | device (v : Byte)
  deriving DecidableEq, Repr

/-- One bus access, with the byte it moved (20_memory.md R43). -/
inductive BusAccess where
  | read (a : Addr) (v : Byte)
  | write (a : Addr) (v : Byte)
  deriving DecidableEq, Repr

/-- The operations the core exposes to the driver (10_state.md R36). -/
inductive Call where
  | tick | nmi | irq | reset | getRegisters
  deriving DecidableEq, Repr

/-- What the last call returned (10_state.md R36). -/
inductive CallResult where
  /-- no call was made yet -/
  | nothing
  /-- the cycle count of a completed `tick()`, `nmi()`, `irq()` or `reset()` -/
  | cycles (n : Nat)
  /-- the Fatal outcome of a `tick()` that fetched a trap opcode; no count (60_exceptions.md R210) -/
  | fatal
  /-- the core is halted: the call made no step (R210) -/
  | noStep
  /-- the fault NotReset: the call needs a PC and came before the first `reset()` (70_reset_and_hazards.md R242); no
  count -/
  | notReset
  /-- the snapshot of `get_registers()` (10_state.md R37) -/
  | registers (r : Registers)
  deriving DecidableEq, Repr

/-- The state. The first nine fields are the spec's (10_state.md R20, R38, 20_memory.md R40); `accesses` and `returned`
are the outputs of the last call (log 6); `calls` and `script` are what the driver and the bus will do (log 5, log 1). -/
structure State where
  /-- the program counter (R24) -/
  pc : Addr
  /-- the stack pointer, an offset into page 1 (R25) -/
  sp : Byte
  /-- the accumulator (R21) -/
  a : Byte
  /-- index register X (R22) -/
  x : Byte
  /-- index register Y (R23) -/
  y : Byte
  /-- the status register, N V U B D I Z C from bit 7 (R27) -/
  p : Byte
  /-- the bytes of RAM (20_memory.md R40) -/
  mem : Memory
  /-- the Fatal record, once there was one (R38) -/
  halted : Option FatalRecord
  /-- whether PC has a value: false until the first `reset()` (R38) -/
  pcValid : Bool
  /-- the bus accesses of the last call, in order (20_memory.md R44) -/
  accesses : List BusAccess
  /-- what the last call returned (R36) -/
  returned : CallResult
  /-- the driver's next calls; when there is none the next call is `tick()` (60_exceptions.md R217) -/
  calls : List Call
  /-- the bus's answers to its next accesses; when there is none the bus is plain RAM (20_memory.md R40) -/
  script : List BusReply
  deriving DecidableEq, Repr

/-- The reasons a step stops: there is none. The spec's two outcomes that return no count, Fatal and NotReset, leave a
state from which calls are made, and are values of `returned` (60_exceptions.md R219; log 7, log 8). -/
inductive Fault where
  deriving DecidableEq, Repr

/-- An instruction without a meaning. -/
inductive Refusal where
  /-- Would be raised by an arm of exec whose instruction had no meaning yet; no arm raises it. Safe. -/
  | notModelled (mnemonic : String)
  deriving DecidableEq, Repr

/-- The outcome of an instruction or a call. -/
abbrev Out := Host.Outcome State Fault Refusal

/-- The state at construction (10_state.md R39): the arguments are the spec's parameters `init_a`, `init_x`, `init_y`,
the bytes the platform placed in memory, and what the driver and the bus will do. PC has no value; the field holds
0x0000 and `pcValid` says that nothing may use it (log 4). -/
def State.construct (initA initX initY : Byte) (mem : Memory) (calls : List Call) (script : List BusReply) : State :=
  { pc := 0x0000, sp := Config.initSp, a := initA, x := initX, y := initY, p := Config.initP, mem := mem,
    halted := none, pcValid := false, accesses := [], returned := .nothing, calls := calls, script := script }

/-- The state after construction and the first `reset()` on a memory that lists nothing (R39, 70_reset_and_hazards.md
R241): SP = 0xFA, P = 0x24, PC from the RESET vector, whose two bytes read as an unlisted byte (log 2, log 4). -/
def State.reset : State :=
  { State.construct Config.initA Config.initX Config.initY [] [] [] with
    pc := Config.unlistedByte ++ Config.unlistedByte
    sp := 0xFA
    pcValid := true
    accesses := [.read 0xFFFC Config.unlistedByte, .read 0xFFFD Config.unlistedByte]
    returned := .cycles Config.entryCycles }

end Sys2Proof.Machine
end

