-- ==== Sys2Proof/Machine/Ops.lean ====
section
/-! DEFINITION. The named operations: memory, the bus, the stack, retiring an instruction, entering and leaving a
handler, raising Fatal. -/

namespace Sys2Proof.Machine

open Sys2Proof

/-- The byte at an address. -/
def Memory.read : Memory → Nat → Byte
  | [], _ => Config.unlistedByte
  | (k, v) :: rest, a => if k = a then v else Memory.read rest a

/-- Put a byte at an address, keeping the addresses rising and listing no byte that an unlisted address reads as. -/
def Memory.write : Memory → Nat → Byte → Memory
  | [], a, v => if v = Config.unlistedByte then [] else [(a, v)]
  | (k, w) :: rest, a, v =>
    if a < k then (if v = Config.unlistedByte then (k, w) :: rest else (a, v) :: (k, w) :: rest)
    else if a = k then (if v = Config.unlistedByte then rest else (a, v) :: rest)
    else (k, w) :: Memory.write rest a v

/-- The canonical form from an address on: rising addresses inside the 64 KB space (20_memory.md R41), no listed byte
equal to what an unlisted one reads as. -/
def Memory.wfFrom : Nat → Memory → Bool
  | _, [] => true
  | from_, (k, v) :: rest =>
    decide (from_ ≤ k) && decide (k < 65536) && decide (v ≠ Config.unlistedByte) && Memory.wfFrom (k + 1) rest

/-- The canonical form of memory. -/
def Memory.wf (m : Memory) : Bool := Memory.wfFrom 0 m

/-- One bus read: the byte, and the state with the access recorded (00_scope.md R12, 20_memory.md R40). -/
def busRead (a : Addr) (s : State) : Byte × State :=
  let v := match s.script with
    | .device v :: _ => v
    | _ => Memory.read s.mem a.toNat
  (v, { s with script := s.script.tail, accesses := s.accesses ++ [.read a v] })

/-- One bus write, recorded (R12, R40). -/
def busWrite (a : Addr) (v : Byte) (s : State) : State :=
  { s with
    mem := match s.script with
      | .device _ :: _ => s.mem
      | _ => Memory.write s.mem a.toNat v
    script := s.script.tail
    accesses := s.accesses ++ [.write a v] }

/-- Two bus reads, low byte first, at an address and the next one modulo 65536 (R12, 20_memory.md R47). -/
def busReadWord (a : Addr) (s : State) : Addr × State :=
  let l := busRead a s
  let h := busRead (a + 1) l.2
  (word h.1 l.1, h.2)

/-- The address SP designates (10_state.md R25). -/
def stackAddr (sp : Byte) : Addr := Config.stackPage ||| sp.setWidth 16

/-- Push: write at the slot SP designates, then decrement SP modulo 256 (R26). -/
def push (v : Byte) (s : State) : State :=
  let s' := busWrite (stackAddr s.sp) v s
  { s' with sp := s'.sp - 1 }

/-- Pull: increment SP modulo 256, then read the slot it designates (R26). -/
def pull (s : State) : Byte × State :=
  let sp' := s.sp + 1
  busRead (stackAddr sp') { s with sp := sp' }

/-- Push a word, high byte first (44_control_transfer.md R160, 20_memory.md R42). -/
def pushWord (w : Addr) (s : State) : State := push (lo w) (push (hi w) s)

/-- Pull a word, low byte first (R161). -/
def pullWord (s : State) : Addr × State :=
  let l := pull s
  let h := pull l.2
  (word h.1 l.1, h.2)

/-- The end of an instruction that transfers no control: PC moves past its bytes, and the count is the base count plus
the page-cross penalty of its row (10_state.md R24, 40_addressing.md R95). -/
def retire (op : Byte) (crossed : Bool) (s : State) : State :=
  { s with pc := s.pc + BitVec.ofNat 16 (descriptor op).size, returned := .cycles (cyclesOf op crossed) }

/-- Entering a handler, for BRK, NMI and IRQ (60_exceptions.md R222): push the return address high byte first and the
status byte, set I, and take PC from the vector. No other flag and no other register changes. -/
def enterHandler (ret : Addr) (pushedP : Byte) (vector : Addr) (s : State) : State :=
  let s1 := push pushedP (pushWord ret s)
  let t := busReadWord vector { s1 with p := setI true s1.p }
  { t.2 with pc := t.1 }

/-- Returning from a handler (R223, 45_stack_status_system.md R182): pull P, then the return address, low byte first,
with no +1. -/
def returnFromHandler (s : State) : State :=
  let f := pull s
  let t := pullWord { f.2 with p := statusPulledByRti f.1 }
  { t.2 with pc := t.1 }

/-- The register file as it shows (10_state.md R37): P with bit 5 = 1, and no PC before the first reset. -/
def State.registers (s : State) : Registers :=
  { pc := if s.pcValid then some s.pc else none, sp := s.sp, a := s.a, x := s.x, y := s.y, p := status s.p }

/-- Raising Fatal (60_exceptions.md R210): `halted` takes the record, no register and no byte of memory changes, and the
call returns no count. -/
def raiseFatal (op : Byte) (s : State) : State :=
  { s with halted := some { opcode := op, pc := s.pc, registers := s.registers }, returned := .fatal }

end Sys2Proof.Machine
end

