-- ==== Sys2Proof/Machine/Operands.lean ====
section
/-! DEFINITION. The addressing-mode resolver (spec/40_addressing.md). The operand bytes themselves are in the
instruction: the fetch read them (20_memory.md R44). -/

namespace Sys2Proof.Machine

open Sys2Proof

/-- What the resolver gives: the effective address, whether a page was crossed, and the state after its pointer reads
(R80). -/
structure Resolved where
  ea : Addr
  crossed : Bool
  state : State
  deriving DecidableEq, Repr

/-- A byte as a 16-bit value, zero-extended (00_scope.md R10). -/
def zext (v : Byte) : Addr := v.setWidth 16

/-- A byte as a 16-bit value, sign-extended (R10). -/
def sext (v : Byte) : Addr := v.signExtend 16

/-- Whether two addresses lie on different pages: their high bytes differ (R86, R88). -/
def pageCrossed (base ea : Addr) : Bool := hi base != hi ea

/-- Indexing a 16-bit base: the sum modulo 65536, and whether the page changed (R88, R89, R92). -/
def indexed (base : Addr) (index : Byte) (s : State) : Resolved :=
  let ea := base + zext index
  { ea := ea, crossed := pageCrossed base ea, state := s }

/-- The word at a zero-page pointer: the high byte's address wraps within page 0 (R91, R92). -/
def zeroPageWord (z : Byte) (s : State) : Addr × State :=
  let l := busRead (zext z) s
  let h := busRead (zext (z + 1)) l.2
  (word h.1 l.1, h.2)

/-- The resolver of the modes whose operand is a byte of memory. -/
def resolve : MemOperand → State → Resolved
  -- R84
  | .zeroPage z, s => { ea := zext z, crossed := false, state := s }
  -- R85: the sum wraps within page 0
  | .zeroPageX z, s => { ea := zext (z + s.x), crossed := false, state := s }
  | .zeroPageY z, s => { ea := zext (z + s.y), crossed := false, state := s }
  -- R87
  | .absolute w, s => { ea := w, crossed := false, state := s }
  -- R88, R89
  | .absoluteX w, s => indexed w s.x s
  | .absoluteY w, s => indexed w s.y s
  -- R91: the pointer's address wraps within page 0
  | .indirectX z, s =>
    let t := zeroPageWord (z + s.x) s
    { ea := t.1, crossed := false, state := t.2 }
  -- R92
  | .indirectY z, s =>
    let t := zeroPageWord z s
    indexed t.1 t.2.y t.2

/-- The Relative mode: the target from the address after the branch, and whether it lies on another page than that
address (R86). -/
def resolveRelative (off : Byte) (s : State) : Addr × Bool :=
  let next := s.pc + 2
  let ea := next + sext off
  (ea, pageCrossed next ea)

/-- The Indirect mode: the target word at the pointer, whose high byte is read from the pointer's own page (R90). -/
def resolveIndirect (ptr : Addr) (s : State) : Addr × State :=
  let l := busRead ptr s
  let h := busRead ((ptr &&& 0xFF00) ||| ((ptr + 1) &&& 0x00FF)) l.2
  (word h.1 l.1, h.2)

end Sys2Proof.Machine
end

