-- ==== Sys2Proof/Machine/Classes.lean ====
section
/-! DEFINITION. The executor's classes (spec/20_memory.md R45): which bus accesses an instruction makes after the
resolver's, and in which order. An instruction's meaning is its class with its opcode, operand and effect. -/

namespace Sys2Proof.Machine

open Sys2Proof

/-- Class "register", implied operand: no access. Also PHA, PHP, PLA and PLP, whose effect is the one push or pull. -/
def impliedClass (op : Byte) (effect : State → State) (s : State) : Out :=
  .next (retire op false (effect s))

/-- Class "register", Accumulator mode: the operand is A and no access is made (40_addressing.md R82, R93). -/
def accumulatorClass (op : Byte) (step : Byte → State → Byte × State) (s : State) : Out :=
  let t := step s.a s
  .next (retire op false { t.2 with a := t.1 })

/-- Class "read", Immediate mode: the operand byte is the one after the opcode, read once, by the fetch (R83, D19,
log 10). -/
def immediateClass (op : Byte) (v : Byte) (effect : Byte → State → State) (s : State) : Out :=
  .next (retire op false (effect v s))

/-- Class "read": one read at EA (R93). -/
def readClass (op : Byte) (m : MemOperand) (effect : Byte → State → State) (s : State) : Out :=
  let r := resolve m s
  let t := busRead r.ea r.state
  .next (retire op r.crossed (effect t.1 t.2))

/-- Class "store": one write at EA and no read (R93). -/
def storeClass (op : Byte) (m : MemOperand) (value : State → Byte) (s : State) : Out :=
  let r := resolve m s
  .next (retire op r.crossed (busWrite r.ea (value r.state) r.state))

/-- Class "RMW": one read and one write at EA (R45, R93). -/
def modifyClass (op : Byte) (m : MemOperand) (step : Byte → State → Byte × State) (s : State) : Out :=
  let r := resolve m s
  let t := busRead r.ea r.state
  let u := step t.1 t.2
  .next (retire op r.crossed (busWrite r.ea u.1 u.2))

/-- The undocumented RMW composites: the RMW step, then the accumulator step on the byte that was written, which
overwrites the flags it writes (46_illegal.md R195). -/
def compositeClass (op : Byte) (m : MemOperand) (step : Byte → State → Byte × State) (effect : Byte → State → State)
    (s : State) : Out :=
  let r := resolve m s
  let t := busRead r.ea r.state
  let u := step t.1 t.2
  .next (retire op r.crossed (effect u.1 (busWrite r.ea u.1 u.2)))

/-- Class "branch": PC takes the target if the condition holds, for one more cycle, or two if the target lies on another
page; else PC moves past the branch (44_control_transfer.md R150, 40_addressing.md R95). -/
def branchClass (op : Byte) (cond : Bool) (off : Byte) (s : State) : Out :=
  let t := resolveRelative off s
  if cond then
    .next { s with pc := t.1, returned := .cycles (baseCycles op + 1 + if t.2 then 1 else 0) }
  else .next (retire op false s)

end Sys2Proof.Machine
end

