-- ==== Sys2Proof/Machine/Calls.lean ====
section
/-! DEFINITION. The calls of the driver (spec/10_state.md R36): fetching for `tick()`, and `nmi()`, `irq()`, `reset()`
and `get_registers()`. A step of the machine is one call. -/

namespace Sys2Proof.Machine

open Sys2Proof

/-- The start of a call: no access was made yet. -/
def beginCall (s : State) : State := { s with accesses := [] }

/-- A call on a halted core makes no step and changes nothing (60_exceptions.md R210): no access, no count. -/
def noStep (s : State) : State := { s with accesses := [], returned := .noStep }

/-- A call that needs a PC is refused before the first `reset()` with the fault NotReset: no access, no change, no count,
and the core stays NotReset (70_reset_and_hazards.md R242, 60_exceptions.md R219; log 8). -/
def notReset (s : State) : State := { s with accesses := [], returned := .notReset }

/-- Fetch: read the opcode at PC, then as many operand bytes as its form has, at PC + 1 and PC + 2, and decode them
(20_memory.md R44, 30_encoding.md R60, R61). PC does not move. -/
def fetch (s : State) : Instr × State :=
  let o := busRead s.pc s
  match (descriptor o.1).form.operandBytes with
  | 0 => (decodeBytes o.1 0x00 0x00, o.2)
  | 1 =>
    let b1 := busRead (s.pc + 1) o.2
    (decodeBytes o.1 b1.1 0x00, b1.2)
  | _ =>
    let b1 := busRead (s.pc + 1) o.2
    let b2 := busRead (s.pc + 2) b1.2
    (decodeBytes o.1 b1.1 b2.1, b2.2)

/-- Run a call that a halted core ignores and that is refused while PC has no value (60_exceptions.md R210, R219,
70_reset_and_hazards.md R242). -/
def guarded (s : State) (run : State → Out) : Out :=
  if s.halted.isSome then .next (noStep s)
  else if s.pcValid then run (beginCall s)
  else .next (notReset s)

/-- `tick()`: one instruction (30_encoding.md R61). `exec` is the executor of Machine/Dispatch.lean. -/
def tickWith (exec : Instr → State → Out) (s : State) : Out :=
  guarded s fun s' => exec (fetch s').1 (fetch s').2

/-- NMI and IRQ entry (60_exceptions.md R215, R216): the handler entry of R222 with the PC of the next instruction and
B = 0 in the pushed status; 7 cycles. -/
def interruptEntry (vector : Addr) (s : State) : State :=
  { enterHandler s.pc (statusPushedByInterrupt s.p) vector s with returned := .cycles Config.entryCycles }

/-- `nmi()`, taken whatever I holds (R215). -/
def nmi (s : State) : Out := guarded s fun s' => .next (interruptEntry Config.nmiVector s')

/-- `irq()`: if I = 1 nothing happens, the request is dropped and the count is 0; else the entry (R214, R216). -/
def irq (s : State) : Out :=
  guarded s fun s' =>
    if flagI s'.p then .next { s' with returned := .cycles 0 } else .next (interruptEntry Config.irqVector s')

/-- `reset()` (70_reset_and_hazards.md R241): SP moves down by 3 with no access, I is set, PC is read from the RESET
vector; everything else is unchanged. A Fatal is not cleared. -/
def resetCall (s : State) : Out :=
  if s.halted.isSome then .next (noStep s)
  else
    let s' := beginCall s
    let t := busReadWord Config.resetVector { s' with sp := s'.sp - 3, p := setI true s'.p }
    .next { t.2 with pc := t.1, pcValid := true, returned := .cycles Config.entryCycles }

/-- `get_registers()`: the snapshot; no access and no change (10_state.md R37). -/
def getRegisters (s : State) : Out := .next { s with accesses := [], returned := .registers s.registers }

/-- One call. -/
def performCall (exec : Instr → State → Out) (c : Call) (s : State) : Out :=
  match c with
  | .tick => tickWith exec s
  | .nmi => nmi s
  | .irq => irq s
  | .reset => resetCall s
  | .getRegisters => getRegisters s

/-- The driver's next call, and the state in which it was made (60_exceptions.md R217). -/
def nextCall (s : State) : Call × State :=
  match s.calls with
  | [] => (.tick, s)
  | c :: rest => (c, { s with calls := rest })

/-- Put the bytes of a number at the addresses from `a` on, modulo 65536, the first byte its least significant. -/
def placeBytes : Nat → Nat → Addr → Memory → Memory
  | 0, _, _, m => m
  | n + 1, w, a, m => placeBytes n (w / 256) (a + 1) (Memory.write m a.toNat (BitVec.ofNat 8 w))

end Sys2Proof.Machine
end

