-- ==== Sys2Proof/Machine/Arithmetic.lean ====
section
/-! DEFINITION. Arithmetic, logical, compare and increment instructions (spec/42_arithmetic_logic.md). First the effect
of each operation, then one meaning for each opcode. -/

namespace Sys2Proof.Machine

open Sys2Proof

/-- ADC: A takes the sum of A, the byte and the carry; C, V, Z, N from the adder (R120, R122). D is not read (R137). -/
def adcA (v : Byte) (s : State) : State :=
  let sum := addWithCarry s.a v (flagC s.p)
  { s with a := sum.result, p := setAdder sum s.p }

/-- SBC: ADC with the byte inverted (R123). -/
def sbcA (v : Byte) (s : State) : State := adcA (~~~v) s

/-- AND (R124). -/
def andA (v : Byte) (s : State) : State := { s with a := s.a &&& v, p := setZN (s.a &&& v) s.p }

/-- ORA (R125). -/
def oraA (v : Byte) (s : State) : State := { s with a := s.a ||| v, p := setZN (s.a ||| v) s.p }

/-- EOR (R126). -/
def eorA (v : Byte) (s : State) : State := { s with a := s.a ^^^ v, p := setZN (s.a ^^^ v) s.p }

/-- CMP: the comparator on A (R121, R127). -/
def cmpA (v : Byte) (s : State) : State := { s with p := setCompare s.a v s.p }

/-- CPX: the comparator on X (R121, R128). -/
def cpxX (v : Byte) (s : State) : State := { s with p := setCompare s.x v s.p }

/-- CPY: the comparator on Y (R121, R129). -/
def cpyY (v : Byte) (s : State) : State := { s with p := setCompare s.y v s.p }

/-- BIT: Z from A and the byte, N and V from bits 7 and 6 of the byte (R130). -/
def bitA (v : Byte) (s : State) : State := { s with p := setBitTest s.a v s.p }

/-- INC's new byte, with Z and N from it (R131). -/
def incStep (v : Byte) (s : State) : Byte × State := (v + 1, { s with p := setZN (v + 1) s.p })

/-- DEC's new byte, with Z and N from it (R132). -/
def decStep (v : Byte) (s : State) : Byte × State := (v - 1, { s with p := setZN (v - 1) s.p })

/-- INX (R133). -/
def inx (s : State) : State := { s with x := s.x + 1, p := setZN (s.x + 1) s.p }

/-- INY (R134). -/
def iny (s : State) : State := { s with y := s.y + 1, p := setZN (s.y + 1) s.p }

/-- DEX (R135). -/
def dex (s : State) : State := { s with x := s.x - 1, p := setZN (s.x - 1) s.p }

/-- DEY (R136). -/
def dey (s : State) : State := { s with y := s.y - 1, p := setZN (s.y - 1) s.p }

/-- 61: ADC IndirectX (R122). -/
def execAdcIndX (z : Byte) (s : State) : Out := readClass 0x61 (.indirectX z) adcA s
/-- 65: ADC ZeroPage (R122). -/
def execAdcZp (z : Byte) (s : State) : Out := readClass 0x65 (.zeroPage z) adcA s
/-- 69: ADC Immediate (R122). -/
def execAdcImm (v : Byte) (s : State) : Out := immediateClass 0x69 v adcA s
/-- 6D: ADC Absolute (R122). -/
def execAdcAbs (w : Addr) (s : State) : Out := readClass 0x6D (.absolute w) adcA s
/-- 71: ADC IndirectY (R122). -/
def execAdcIndY (z : Byte) (s : State) : Out := readClass 0x71 (.indirectY z) adcA s
/-- 75: ADC ZeroPageX (R122). -/
def execAdcZpX (z : Byte) (s : State) : Out := readClass 0x75 (.zeroPageX z) adcA s
/-- 79: ADC AbsoluteY (R122). -/
def execAdcAbsY (w : Addr) (s : State) : Out := readClass 0x79 (.absoluteY w) adcA s
/-- 7D: ADC AbsoluteX (R122). -/
def execAdcAbsX (w : Addr) (s : State) : Out := readClass 0x7D (.absoluteX w) adcA s

/-- E1: SBC IndirectX (R123). -/
def execSbcIndX (z : Byte) (s : State) : Out := readClass 0xE1 (.indirectX z) sbcA s
/-- E5: SBC ZeroPage (R123). -/
def execSbcZp (z : Byte) (s : State) : Out := readClass 0xE5 (.zeroPage z) sbcA s
/-- E9: SBC Immediate (R123). -/
def execSbcImm (v : Byte) (s : State) : Out := immediateClass 0xE9 v sbcA s
/-- ED: SBC Absolute (R123). -/
def execSbcAbs (w : Addr) (s : State) : Out := readClass 0xED (.absolute w) sbcA s
/-- F1: SBC IndirectY (R123). -/
def execSbcIndY (z : Byte) (s : State) : Out := readClass 0xF1 (.indirectY z) sbcA s
/-- F5: SBC ZeroPageX (R123). -/
def execSbcZpX (z : Byte) (s : State) : Out := readClass 0xF5 (.zeroPageX z) sbcA s
/-- F9: SBC AbsoluteY (R123). -/
def execSbcAbsY (w : Addr) (s : State) : Out := readClass 0xF9 (.absoluteY w) sbcA s
/-- FD: SBC AbsoluteX (R123). -/
def execSbcAbsX (w : Addr) (s : State) : Out := readClass 0xFD (.absoluteX w) sbcA s

/-- 21: AND IndirectX (R124). -/
def execAndIndX (z : Byte) (s : State) : Out := readClass 0x21 (.indirectX z) andA s
/-- 25: AND ZeroPage (R124). -/
def execAndZp (z : Byte) (s : State) : Out := readClass 0x25 (.zeroPage z) andA s
/-- 29: AND Immediate (R124). -/
def execAndImm (v : Byte) (s : State) : Out := immediateClass 0x29 v andA s
/-- 2D: AND Absolute (R124). -/
def execAndAbs (w : Addr) (s : State) : Out := readClass 0x2D (.absolute w) andA s
/-- 31: AND IndirectY (R124). -/
def execAndIndY (z : Byte) (s : State) : Out := readClass 0x31 (.indirectY z) andA s
/-- 35: AND ZeroPageX (R124). -/
def execAndZpX (z : Byte) (s : State) : Out := readClass 0x35 (.zeroPageX z) andA s
/-- 39: AND AbsoluteY (R124). -/
def execAndAbsY (w : Addr) (s : State) : Out := readClass 0x39 (.absoluteY w) andA s
/-- 3D: AND AbsoluteX (R124). -/
def execAndAbsX (w : Addr) (s : State) : Out := readClass 0x3D (.absoluteX w) andA s

/-- 01: ORA IndirectX (R125). -/
def execOraIndX (z : Byte) (s : State) : Out := readClass 0x01 (.indirectX z) oraA s
/-- 05: ORA ZeroPage (R125). -/
def execOraZp (z : Byte) (s : State) : Out := readClass 0x05 (.zeroPage z) oraA s
/-- 09: ORA Immediate (R125). -/
def execOraImm (v : Byte) (s : State) : Out := immediateClass 0x09 v oraA s
/-- 0D: ORA Absolute (R125). -/
def execOraAbs (w : Addr) (s : State) : Out := readClass 0x0D (.absolute w) oraA s
/-- 11: ORA IndirectY (R125). -/
def execOraIndY (z : Byte) (s : State) : Out := readClass 0x11 (.indirectY z) oraA s
/-- 15: ORA ZeroPageX (R125). -/
def execOraZpX (z : Byte) (s : State) : Out := readClass 0x15 (.zeroPageX z) oraA s
/-- 19: ORA AbsoluteY (R125). -/
def execOraAbsY (w : Addr) (s : State) : Out := readClass 0x19 (.absoluteY w) oraA s
/-- 1D: ORA AbsoluteX (R125). -/
def execOraAbsX (w : Addr) (s : State) : Out := readClass 0x1D (.absoluteX w) oraA s

/-- 41: EOR IndirectX (R126). -/
def execEorIndX (z : Byte) (s : State) : Out := readClass 0x41 (.indirectX z) eorA s
/-- 45: EOR ZeroPage (R126). -/
def execEorZp (z : Byte) (s : State) : Out := readClass 0x45 (.zeroPage z) eorA s
/-- 49: EOR Immediate (R126). -/
def execEorImm (v : Byte) (s : State) : Out := immediateClass 0x49 v eorA s
/-- 4D: EOR Absolute (R126). -/
def execEorAbs (w : Addr) (s : State) : Out := readClass 0x4D (.absolute w) eorA s
/-- 51: EOR IndirectY (R126). -/
def execEorIndY (z : Byte) (s : State) : Out := readClass 0x51 (.indirectY z) eorA s
/-- 55: EOR ZeroPageX (R126). -/
def execEorZpX (z : Byte) (s : State) : Out := readClass 0x55 (.zeroPageX z) eorA s
/-- 59: EOR AbsoluteY (R126). -/
def execEorAbsY (w : Addr) (s : State) : Out := readClass 0x59 (.absoluteY w) eorA s
/-- 5D: EOR AbsoluteX (R126). -/
def execEorAbsX (w : Addr) (s : State) : Out := readClass 0x5D (.absoluteX w) eorA s

/-- C1: CMP IndirectX (R127). -/
def execCmpIndX (z : Byte) (s : State) : Out := readClass 0xC1 (.indirectX z) cmpA s
/-- C5: CMP ZeroPage (R127). -/
def execCmpZp (z : Byte) (s : State) : Out := readClass 0xC5 (.zeroPage z) cmpA s
/-- C9: CMP Immediate (R127). -/
def execCmpImm (v : Byte) (s : State) : Out := immediateClass 0xC9 v cmpA s
/-- CD: CMP Absolute (R127). -/
def execCmpAbs (w : Addr) (s : State) : Out := readClass 0xCD (.absolute w) cmpA s
/-- D1: CMP IndirectY (R127). -/
def execCmpIndY (z : Byte) (s : State) : Out := readClass 0xD1 (.indirectY z) cmpA s
/-- D5: CMP ZeroPageX (R127). -/
def execCmpZpX (z : Byte) (s : State) : Out := readClass 0xD5 (.zeroPageX z) cmpA s
/-- D9: CMP AbsoluteY (R127). -/
def execCmpAbsY (w : Addr) (s : State) : Out := readClass 0xD9 (.absoluteY w) cmpA s
/-- DD: CMP AbsoluteX (R127). -/
def execCmpAbsX (w : Addr) (s : State) : Out := readClass 0xDD (.absoluteX w) cmpA s

/-- E0: CPX Immediate (R128). -/
def execCpxImm (v : Byte) (s : State) : Out := immediateClass 0xE0 v cpxX s
/-- E4: CPX ZeroPage (R128). -/
def execCpxZp (z : Byte) (s : State) : Out := readClass 0xE4 (.zeroPage z) cpxX s
/-- EC: CPX Absolute (R128). -/
def execCpxAbs (w : Addr) (s : State) : Out := readClass 0xEC (.absolute w) cpxX s

/-- C0: CPY Immediate (R129). -/
def execCpyImm (v : Byte) (s : State) : Out := immediateClass 0xC0 v cpyY s
/-- C4: CPY ZeroPage (R129). -/
def execCpyZp (z : Byte) (s : State) : Out := readClass 0xC4 (.zeroPage z) cpyY s
/-- CC: CPY Absolute (R129). -/
def execCpyAbs (w : Addr) (s : State) : Out := readClass 0xCC (.absolute w) cpyY s

/-- 24: BIT ZeroPage (R130). -/
def execBitZp (z : Byte) (s : State) : Out := readClass 0x24 (.zeroPage z) bitA s
/-- 2C: BIT Absolute (R130). -/
def execBitAbs (w : Addr) (s : State) : Out := readClass 0x2C (.absolute w) bitA s

/-- E6: INC ZeroPage (R131). -/
def execIncZp (z : Byte) (s : State) : Out := modifyClass 0xE6 (.zeroPage z) incStep s
/-- EE: INC Absolute (R131). -/
def execIncAbs (w : Addr) (s : State) : Out := modifyClass 0xEE (.absolute w) incStep s
/-- F6: INC ZeroPageX (R131). -/
def execIncZpX (z : Byte) (s : State) : Out := modifyClass 0xF6 (.zeroPageX z) incStep s
/-- FE: INC AbsoluteX (R131). -/
def execIncAbsX (w : Addr) (s : State) : Out := modifyClass 0xFE (.absoluteX w) incStep s

/-- C6: DEC ZeroPage (R132). -/
def execDecZp (z : Byte) (s : State) : Out := modifyClass 0xC6 (.zeroPage z) decStep s
/-- CE: DEC Absolute (R132). -/
def execDecAbs (w : Addr) (s : State) : Out := modifyClass 0xCE (.absolute w) decStep s
/-- D6: DEC ZeroPageX (R132). -/
def execDecZpX (z : Byte) (s : State) : Out := modifyClass 0xD6 (.zeroPageX z) decStep s
/-- DE: DEC AbsoluteX (R132). -/
def execDecAbsX (w : Addr) (s : State) : Out := modifyClass 0xDE (.absoluteX w) decStep s

/-- E8: INX Implied (R133). -/
def execInx (s : State) : Out := impliedClass 0xE8 inx s

/-- C8: INY Implied (R134). -/
def execIny (s : State) : Out := impliedClass 0xC8 iny s

/-- CA: DEX Implied (R135). -/
def execDex (s : State) : Out := impliedClass 0xCA dex s

/-- 88: DEY Implied (R136). -/
def execDey (s : State) : Out := impliedClass 0x88 dey s

end Sys2Proof.Machine
end

