-- ==== Sys2Proof/Machine/Control.lean ====
section
/-! DEFINITION. Branches, jumps, calls and returns (spec/44_control_transfer.md). -/

namespace Sys2Proof.Machine

open Sys2Proof

/-- JMP Absolute: PC takes the operand word (R87, R159). -/
def jumpAbsolute (op : Byte) (w : Addr) (s : State) : Out :=
  .next { s with pc := w, returned := .cycles (baseCycles op) }

/-- JMP Indirect: PC takes the word at the pointer, with the page-wrap of R90 (R159). -/
def jumpIndirect (op : Byte) (w : Addr) (s : State) : Out :=
  let t := resolveIndirect w s
  .next { t.2 with pc := t.1, returned := .cycles (baseCycles op) }

/-- JSR: push the address of the JSR's last byte, high byte first, then PC takes the operand word (R160). -/
def subroutineCall (op : Byte) (w : Addr) (s : State) : Out :=
  .next { pushWord (s.pc + 2) s with pc := w, returned := .cycles (baseCycles op) }

/-- RTS: pull the low then the high byte; PC takes their word plus one (R161). -/
def subroutineReturn (op : Byte) (s : State) : Out :=
  let t := pullWord s
  .next { t.2 with pc := t.1 + 1, returned := .cycles (baseCycles op) }

/-- 90: BCC Relative (R151). -/
def execBcc (off : Byte) (s : State) : Out := branchClass 0x90 (!flagC s.p) off s

/-- B0: BCS Relative (R152). -/
def execBcs (off : Byte) (s : State) : Out := branchClass 0xB0 (flagC s.p) off s

/-- F0: BEQ Relative (R153). -/
def execBeq (off : Byte) (s : State) : Out := branchClass 0xF0 (flagZ s.p) off s

/-- D0: BNE Relative (R154). -/
def execBne (off : Byte) (s : State) : Out := branchClass 0xD0 (!flagZ s.p) off s

/-- 30: BMI Relative (R155). -/
def execBmi (off : Byte) (s : State) : Out := branchClass 0x30 (flagN s.p) off s

/-- 10: BPL Relative (R156). -/
def execBpl (off : Byte) (s : State) : Out := branchClass 0x10 (!flagN s.p) off s

/-- 50: BVC Relative (R157). -/
def execBvc (off : Byte) (s : State) : Out := branchClass 0x50 (!flagV s.p) off s

/-- 70: BVS Relative (R158). -/
def execBvs (off : Byte) (s : State) : Out := branchClass 0x70 (flagV s.p) off s

/-- 4C: JMP Absolute (R159). -/
def execJmpAbs (w : Addr) (s : State) : Out := jumpAbsolute 0x4C w s
/-- 6C: JMP Indirect (R159). -/
def execJmpInd (w : Addr) (s : State) : Out := jumpIndirect 0x6C w s

/-- 20: JSR Absolute (R160). -/
def execJsr (w : Addr) (s : State) : Out := subroutineCall 0x20 w s

/-- 60: RTS Implied (R161). -/
def execRts (s : State) : Out := subroutineReturn 0x60 s

end Sys2Proof.Machine
end

