-- ==== Sys2Proof/Machine/LoadStore.lean ====
section
/-! DEFINITION. Load, store and transfer instructions (spec/41_load_store_transfer.md). First the effect of each
operation, then one meaning for each opcode. -/

namespace Sys2Proof.Machine

open Sys2Proof

/-- LDA: A takes the byte; Z and N from it (R100). -/
def loadA (v : Byte) (s : State) : State := { s with a := v, p := setZN v s.p }

/-- LDX: X takes the byte; Z and N from it (R101). -/
def loadX (v : Byte) (s : State) : State := { s with x := v, p := setZN v s.p }

/-- LDY: Y takes the byte; Z and N from it (R102). -/
def loadY (v : Byte) (s : State) : State := { s with y := v, p := setZN v s.p }

/-- TAX (R106). -/
def tax (s : State) : State := loadX s.a s

/-- TAY (R107). -/
def tay (s : State) : State := loadY s.a s

/-- TXA (R108). -/
def txa (s : State) : State := loadA s.x s

/-- TYA (R109). -/
def tya (s : State) : State := loadA s.y s

/-- TSX: X takes SP, and Z and N are set from it (R110). -/
def tsx (s : State) : State := loadX s.sp s

/-- TXS: SP takes X, and no flag changes (R111). -/
def txs (s : State) : State := { s with sp := s.x }

/-- A1: LDA IndirectX (R100). -/
def execLdaIndX (z : Byte) (s : State) : Out := readClass 0xA1 (.indirectX z) loadA s
/-- A5: LDA ZeroPage (R100). -/
def execLdaZp (z : Byte) (s : State) : Out := readClass 0xA5 (.zeroPage z) loadA s
/-- A9: LDA Immediate (R100). -/
def execLdaImm (v : Byte) (s : State) : Out := immediateClass 0xA9 v loadA s
/-- AD: LDA Absolute (R100). -/
def execLdaAbs (w : Addr) (s : State) : Out := readClass 0xAD (.absolute w) loadA s
/-- B1: LDA IndirectY (R100). -/
def execLdaIndY (z : Byte) (s : State) : Out := readClass 0xB1 (.indirectY z) loadA s
/-- B5: LDA ZeroPageX (R100). -/
def execLdaZpX (z : Byte) (s : State) : Out := readClass 0xB5 (.zeroPageX z) loadA s
/-- B9: LDA AbsoluteY (R100). -/
def execLdaAbsY (w : Addr) (s : State) : Out := readClass 0xB9 (.absoluteY w) loadA s
/-- BD: LDA AbsoluteX (R100). -/
def execLdaAbsX (w : Addr) (s : State) : Out := readClass 0xBD (.absoluteX w) loadA s

/-- A2: LDX Immediate (R101). -/
def execLdxImm (v : Byte) (s : State) : Out := immediateClass 0xA2 v loadX s
/-- A6: LDX ZeroPage (R101). -/
def execLdxZp (z : Byte) (s : State) : Out := readClass 0xA6 (.zeroPage z) loadX s
/-- AE: LDX Absolute (R101). -/
def execLdxAbs (w : Addr) (s : State) : Out := readClass 0xAE (.absolute w) loadX s
/-- B6: LDX ZeroPageY (R101). -/
def execLdxZpY (z : Byte) (s : State) : Out := readClass 0xB6 (.zeroPageY z) loadX s
/-- BE: LDX AbsoluteY (R101). -/
def execLdxAbsY (w : Addr) (s : State) : Out := readClass 0xBE (.absoluteY w) loadX s

/-- A0: LDY Immediate (R102). -/
def execLdyImm (v : Byte) (s : State) : Out := immediateClass 0xA0 v loadY s
/-- A4: LDY ZeroPage (R102). -/
def execLdyZp (z : Byte) (s : State) : Out := readClass 0xA4 (.zeroPage z) loadY s
/-- AC: LDY Absolute (R102). -/
def execLdyAbs (w : Addr) (s : State) : Out := readClass 0xAC (.absolute w) loadY s
/-- B4: LDY ZeroPageX (R102). -/
def execLdyZpX (z : Byte) (s : State) : Out := readClass 0xB4 (.zeroPageX z) loadY s
/-- BC: LDY AbsoluteX (R102). -/
def execLdyAbsX (w : Addr) (s : State) : Out := readClass 0xBC (.absoluteX w) loadY s

/-- 81: STA IndirectX (R103). -/
def execStaIndX (z : Byte) (s : State) : Out := storeClass 0x81 (.indirectX z) State.a s
/-- 85: STA ZeroPage (R103). -/
def execStaZp (z : Byte) (s : State) : Out := storeClass 0x85 (.zeroPage z) State.a s
/-- 8D: STA Absolute (R103). -/
def execStaAbs (w : Addr) (s : State) : Out := storeClass 0x8D (.absolute w) State.a s
/-- 91: STA IndirectY (R103). -/
def execStaIndY (z : Byte) (s : State) : Out := storeClass 0x91 (.indirectY z) State.a s
/-- 95: STA ZeroPageX (R103). -/
def execStaZpX (z : Byte) (s : State) : Out := storeClass 0x95 (.zeroPageX z) State.a s
/-- 99: STA AbsoluteY (R103). -/
def execStaAbsY (w : Addr) (s : State) : Out := storeClass 0x99 (.absoluteY w) State.a s
/-- 9D: STA AbsoluteX (R103). -/
def execStaAbsX (w : Addr) (s : State) : Out := storeClass 0x9D (.absoluteX w) State.a s

/-- 86: STX ZeroPage (R104). -/
def execStxZp (z : Byte) (s : State) : Out := storeClass 0x86 (.zeroPage z) State.x s
/-- 8E: STX Absolute (R104). -/
def execStxAbs (w : Addr) (s : State) : Out := storeClass 0x8E (.absolute w) State.x s
/-- 96: STX ZeroPageY (R104). -/
def execStxZpY (z : Byte) (s : State) : Out := storeClass 0x96 (.zeroPageY z) State.x s

/-- 84: STY ZeroPage (R105). -/
def execStyZp (z : Byte) (s : State) : Out := storeClass 0x84 (.zeroPage z) State.y s
/-- 8C: STY Absolute (R105). -/
def execStyAbs (w : Addr) (s : State) : Out := storeClass 0x8C (.absolute w) State.y s
/-- 94: STY ZeroPageX (R105). -/
def execStyZpX (z : Byte) (s : State) : Out := storeClass 0x94 (.zeroPageX z) State.y s

/-- AA: TAX Implied (R106). -/
def execTax (s : State) : Out := impliedClass 0xAA tax s

/-- A8: TAY Implied (R107). -/
def execTay (s : State) : Out := impliedClass 0xA8 tay s

/-- 8A: TXA Implied (R108). -/
def execTxa (s : State) : Out := impliedClass 0x8A txa s

/-- 98: TYA Implied (R109). -/
def execTya (s : State) : Out := impliedClass 0x98 tya s

/-- BA: TSX Implied (R110). -/
def execTsx (s : State) : Out := impliedClass 0xBA tsx s

/-- 9A: TXS Implied (R111). -/
def execTxs (s : State) : Out := impliedClass 0x9A txs s

end Sys2Proof.Machine
end

