-- ==== Sys2Proof/Machine/Shift.lean ====
section
/-! DEFINITION. Shift and rotate instructions (spec/43_shift_rotate.md). Each step takes the byte and gives the new byte,
with C the bit shifted out and Z, N from the new byte; then one meaning for each opcode. -/

namespace Sys2Proof.Machine

open Sys2Proof

/-- ASL: bit 0 becomes 0 (R140). -/
def aslStep (v : Byte) (s : State) : Byte × State :=
  (v <<< 1, { s with p := setZN (v <<< 1) (setC (v.getLsbD 7) s.p) })

/-- LSR: bit 7 becomes 0 (R141). -/
def lsrStep (v : Byte) (s : State) : Byte × State :=
  (v >>> 1, { s with p := setZN (v >>> 1) (setC (v.getLsbD 0) s.p) })

/-- ROL: the previous carry goes into bit 0 (R142). -/
def rolStep (v : Byte) (s : State) : Byte × State :=
  let r := v <<< 1 ||| bit (flagC s.p) 0
  (r, { s with p := setZN r (setC (v.getLsbD 7) s.p) })

/-- ROR: the previous carry goes into bit 7 (R143). -/
def rorStep (v : Byte) (s : State) : Byte × State :=
  let r := v >>> 1 ||| bit (flagC s.p) 7
  (r, { s with p := setZN r (setC (v.getLsbD 0) s.p) })

/-- 06: ASL ZeroPage (R140). -/
def execAslZp (z : Byte) (s : State) : Out := modifyClass 0x06 (.zeroPage z) aslStep s
/-- 0A: ASL Accumulator (R140). -/
def execAslA (s : State) : Out := accumulatorClass 0x0A aslStep s
/-- 0E: ASL Absolute (R140). -/
def execAslAbs (w : Addr) (s : State) : Out := modifyClass 0x0E (.absolute w) aslStep s
/-- 16: ASL ZeroPageX (R140). -/
def execAslZpX (z : Byte) (s : State) : Out := modifyClass 0x16 (.zeroPageX z) aslStep s
/-- 1E: ASL AbsoluteX (R140). -/
def execAslAbsX (w : Addr) (s : State) : Out := modifyClass 0x1E (.absoluteX w) aslStep s

/-- 46: LSR ZeroPage (R141). -/
def execLsrZp (z : Byte) (s : State) : Out := modifyClass 0x46 (.zeroPage z) lsrStep s
/-- 4A: LSR Accumulator (R141). -/
def execLsrA (s : State) : Out := accumulatorClass 0x4A lsrStep s
/-- 4E: LSR Absolute (R141). -/
def execLsrAbs (w : Addr) (s : State) : Out := modifyClass 0x4E (.absolute w) lsrStep s
/-- 56: LSR ZeroPageX (R141). -/
def execLsrZpX (z : Byte) (s : State) : Out := modifyClass 0x56 (.zeroPageX z) lsrStep s
/-- 5E: LSR AbsoluteX (R141). -/
def execLsrAbsX (w : Addr) (s : State) : Out := modifyClass 0x5E (.absoluteX w) lsrStep s

/-- 26: ROL ZeroPage (R142). -/
def execRolZp (z : Byte) (s : State) : Out := modifyClass 0x26 (.zeroPage z) rolStep s
/-- 2A: ROL Accumulator (R142). -/
def execRolA (s : State) : Out := accumulatorClass 0x2A rolStep s
/-- 2E: ROL Absolute (R142). -/
def execRolAbs (w : Addr) (s : State) : Out := modifyClass 0x2E (.absolute w) rolStep s
/-- 36: ROL ZeroPageX (R142). -/
def execRolZpX (z : Byte) (s : State) : Out := modifyClass 0x36 (.zeroPageX z) rolStep s
/-- 3E: ROL AbsoluteX (R142). -/
def execRolAbsX (w : Addr) (s : State) : Out := modifyClass 0x3E (.absoluteX w) rolStep s

/-- 66: ROR ZeroPage (R143). -/
def execRorZp (z : Byte) (s : State) : Out := modifyClass 0x66 (.zeroPage z) rorStep s
/-- 6A: ROR Accumulator (R143). -/
def execRorA (s : State) : Out := accumulatorClass 0x6A rorStep s
/-- 6E: ROR Absolute (R143). -/
def execRorAbs (w : Addr) (s : State) : Out := modifyClass 0x6E (.absolute w) rorStep s
/-- 76: ROR ZeroPageX (R143). -/
def execRorZpX (z : Byte) (s : State) : Out := modifyClass 0x76 (.zeroPageX z) rorStep s
/-- 7E: ROR AbsoluteX (R143). -/
def execRorAbsX (w : Addr) (s : State) : Out := modifyClass 0x7E (.absoluteX w) rorStep s

end Sys2Proof.Machine
end

