-- ==== Sys2Proof/Machine/System.lean ====
section
/-! DEFINITION. Stack, status-flag and system instructions (spec/45_stack_status_system.md). -/

namespace Sys2Proof.Machine

open Sys2Proof

/-- PHA (R170). -/
def pushA (s : State) : State := push s.a s

/-- PHP: the pushed byte has B = 1 and U = 1 whatever the live bits are (R35, R171). -/
def pushP (s : State) : State := push (statusPushedByBreak s.p) s

/-- PLA: A takes the pulled byte; Z and N from it (R172). -/
def pullA (s : State) : State :=
  let t := pull s
  { t.2 with a := t.1, p := setZN t.1 t.2.p }

/-- PLP: every flag but B from the pulled byte, the live B kept, U = 1 (R173). -/
def pullP (s : State) : State :=
  let t := pull s
  { t.2 with p := statusPulledByPlp t.1 t.2.p }

/-- CLC (R174). -/
def clearCarry (s : State) : State := { s with p := setC false s.p }

/-- SEC (R175). -/
def setCarry (s : State) : State := { s with p := setC true s.p }

/-- CLI (R176). -/
def clearInterruptDisable (s : State) : State := { s with p := setI false s.p }

/-- SEI (R177). -/
def setInterruptDisable (s : State) : State := { s with p := setI true s.p }

/-- CLD (R178). -/
def clearDecimal (s : State) : State := { s with p := setD false s.p }

/-- SED (R179). -/
def setDecimal (s : State) : State := { s with p := setD true s.p }

/-- CLV (R180). -/
def clearOverflow (s : State) : State := { s with p := setV false s.p }

/-- NOP: nothing but the PC advance (R183). -/
def noEffect (s : State) : State := s

/-- BRK: the handler entry of R222 with the return address PC + 2 and B = 1 in the pushed status, through the vector
shared with IRQ, whatever I holds (R181, R218). -/
def softwareInterrupt (op : Byte) (s : State) : Out :=
  .next { enterHandler (s.pc + 2) (statusPushedByBreak s.p) Config.irqVector s with
    returned := .cycles (baseCycles op) }

/-- RTI: the return from a handler (R182, R223). -/
def interruptReturn (op : Byte) (s : State) : Out :=
  .next { returnFromHandler s with returned := .cycles (baseCycles op) }

/-- 48: PHA Implied (R170). -/
def execPha (s : State) : Out := impliedClass 0x48 pushA s

/-- 08: PHP Implied (R171). -/
def execPhp (s : State) : Out := impliedClass 0x08 pushP s

/-- 68: PLA Implied (R172). -/
def execPla (s : State) : Out := impliedClass 0x68 pullA s

/-- 28: PLP Implied (R173). -/
def execPlp (s : State) : Out := impliedClass 0x28 pullP s

/-- 18: CLC Implied (R174). -/
def execClc (s : State) : Out := impliedClass 0x18 clearCarry s

/-- 38: SEC Implied (R175). -/
def execSec (s : State) : Out := impliedClass 0x38 setCarry s

/-- 58: CLI Implied (R176). -/
def execCli (s : State) : Out := impliedClass 0x58 clearInterruptDisable s

/-- 78: SEI Implied (R177). -/
def execSei (s : State) : Out := impliedClass 0x78 setInterruptDisable s

/-- D8: CLD Implied (R178). -/
def execCld (s : State) : Out := impliedClass 0xD8 clearDecimal s

/-- F8: SED Implied (R179). -/
def execSed (s : State) : Out := impliedClass 0xF8 setDecimal s

/-- B8: CLV Implied (R180). -/
def execClv (s : State) : Out := impliedClass 0xB8 clearOverflow s

/-- 00: BRK Implied (R181). -/
def execBrk (s : State) : Out := softwareInterrupt 0x00 s

/-- 40: RTI Implied (R182). -/
def execRti (s : State) : Out := interruptReturn 0x40 s

/-- EA: NOP Implied (R183). -/
def execNop (s : State) : Out := impliedClass 0xEA noEffect s

end Sys2Proof.Machine
end

