-- ==== Sys2Proof/Machine/Illegal.lean ====
section
/-! DEFINITION. The 80 supported undocumented opcodes (spec/46_illegal.md R190 to R201). -/

namespace Sys2Proof.Machine

open Sys2Proof

/-- An undocumented NOP reads its operand and discards it (R191). -/
def discardByte (_ : Byte) (s : State) : State := s

/-- LAX: A and X take the byte; Z and N from it (R192). -/
def loadAX (v : Byte) (s : State) : State := { s with a := v, x := v, p := setZN v s.p }

/-- The byte SAX stores (R193). -/
def aAndX (s : State) : Byte := s.a &&& s.x

/-- 04: NOP ZeroPage (R191). -/
def execNopZp04 (z : Byte) (s : State) : Out := readClass 0x04 (.zeroPage z) discardByte s
/-- 0C: NOP Absolute (R191). -/
def execNopAbs0C (w : Addr) (s : State) : Out := readClass 0x0C (.absolute w) discardByte s
/-- 14: NOP ZeroPageX (R191). -/
def execNopZpX14 (z : Byte) (s : State) : Out := readClass 0x14 (.zeroPageX z) discardByte s
/-- 1A: NOP Implied (R191). -/
def execNopImp1A (s : State) : Out := impliedClass 0x1A noEffect s
/-- 1C: NOP AbsoluteX (R191). -/
def execNopAbsX1C (w : Addr) (s : State) : Out := readClass 0x1C (.absoluteX w) discardByte s
/-- 34: NOP ZeroPageX (R191). -/
def execNopZpX34 (z : Byte) (s : State) : Out := readClass 0x34 (.zeroPageX z) discardByte s
/-- 3A: NOP Implied (R191). -/
def execNopImp3A (s : State) : Out := impliedClass 0x3A noEffect s
/-- 3C: NOP AbsoluteX (R191). -/
def execNopAbsX3C (w : Addr) (s : State) : Out := readClass 0x3C (.absoluteX w) discardByte s
/-- 44: NOP ZeroPage (R191). -/
def execNopZp44 (z : Byte) (s : State) : Out := readClass 0x44 (.zeroPage z) discardByte s
/-- 54: NOP ZeroPageX (R191). -/
def execNopZpX54 (z : Byte) (s : State) : Out := readClass 0x54 (.zeroPageX z) discardByte s
/-- 5A: NOP Implied (R191). -/
def execNopImp5A (s : State) : Out := impliedClass 0x5A noEffect s
/-- 5C: NOP AbsoluteX (R191). -/
def execNopAbsX5C (w : Addr) (s : State) : Out := readClass 0x5C (.absoluteX w) discardByte s
/-- 64: NOP ZeroPage (R191). -/
def execNopZp64 (z : Byte) (s : State) : Out := readClass 0x64 (.zeroPage z) discardByte s
/-- 74: NOP ZeroPageX (R191). -/
def execNopZpX74 (z : Byte) (s : State) : Out := readClass 0x74 (.zeroPageX z) discardByte s
/-- 7A: NOP Implied (R191). -/
def execNopImp7A (s : State) : Out := impliedClass 0x7A noEffect s
/-- 7C: NOP AbsoluteX (R191). -/
def execNopAbsX7C (w : Addr) (s : State) : Out := readClass 0x7C (.absoluteX w) discardByte s
/-- 80: NOP Immediate (R191). -/
def execNopImm80 (v : Byte) (s : State) : Out := immediateClass 0x80 v discardByte s
/-- 82: NOP Immediate (R191). -/
def execNopImm82 (v : Byte) (s : State) : Out := immediateClass 0x82 v discardByte s
/-- 89: NOP Immediate (R191). -/
def execNopImm89 (v : Byte) (s : State) : Out := immediateClass 0x89 v discardByte s
/-- C2: NOP Immediate (R191). -/
def execNopImmC2 (v : Byte) (s : State) : Out := immediateClass 0xC2 v discardByte s
/-- D4: NOP ZeroPageX (R191). -/
def execNopZpXD4 (z : Byte) (s : State) : Out := readClass 0xD4 (.zeroPageX z) discardByte s
/-- DA: NOP Implied (R191). -/
def execNopImpDA (s : State) : Out := impliedClass 0xDA noEffect s
/-- DC: NOP AbsoluteX (R191). -/
def execNopAbsXDC (w : Addr) (s : State) : Out := readClass 0xDC (.absoluteX w) discardByte s
/-- E2: NOP Immediate (R191). -/
def execNopImmE2 (v : Byte) (s : State) : Out := immediateClass 0xE2 v discardByte s
/-- F4: NOP ZeroPageX (R191). -/
def execNopZpXF4 (z : Byte) (s : State) : Out := readClass 0xF4 (.zeroPageX z) discardByte s
/-- FA: NOP Implied (R191). -/
def execNopImpFA (s : State) : Out := impliedClass 0xFA noEffect s
/-- FC: NOP AbsoluteX (R191). -/
def execNopAbsXFC (w : Addr) (s : State) : Out := readClass 0xFC (.absoluteX w) discardByte s

/-- A3: LAX IndirectX (R192). -/
def execLaxIndX (z : Byte) (s : State) : Out := readClass 0xA3 (.indirectX z) loadAX s
/-- A7: LAX ZeroPage (R192). -/
def execLaxZp (z : Byte) (s : State) : Out := readClass 0xA7 (.zeroPage z) loadAX s
/-- AF: LAX Absolute (R192). -/
def execLaxAbs (w : Addr) (s : State) : Out := readClass 0xAF (.absolute w) loadAX s
/-- B3: LAX IndirectY (R192). -/
def execLaxIndY (z : Byte) (s : State) : Out := readClass 0xB3 (.indirectY z) loadAX s
/-- B7: LAX ZeroPageY (R192). -/
def execLaxZpY (z : Byte) (s : State) : Out := readClass 0xB7 (.zeroPageY z) loadAX s
/-- BF: LAX AbsoluteY (R192). -/
def execLaxAbsY (w : Addr) (s : State) : Out := readClass 0xBF (.absoluteY w) loadAX s

/-- 83: SAX IndirectX (R193). -/
def execSaxIndX (z : Byte) (s : State) : Out := storeClass 0x83 (.indirectX z) aAndX s
/-- 87: SAX ZeroPage (R193). -/
def execSaxZp (z : Byte) (s : State) : Out := storeClass 0x87 (.zeroPage z) aAndX s
/-- 8F: SAX Absolute (R193). -/
def execSaxAbs (w : Addr) (s : State) : Out := storeClass 0x8F (.absolute w) aAndX s
/-- 97: SAX ZeroPageY (R193). -/
def execSaxZpY (z : Byte) (s : State) : Out := storeClass 0x97 (.zeroPageY z) aAndX s

/-- EB: SBC Immediate (R194). -/
def execSbcImmEB (v : Byte) (s : State) : Out := immediateClass 0xEB v sbcA s

/-- 03: SLO IndirectX (R196). -/
def execSloIndX (z : Byte) (s : State) : Out := compositeClass 0x03 (.indirectX z) aslStep oraA s
/-- 07: SLO ZeroPage (R196). -/
def execSloZp (z : Byte) (s : State) : Out := compositeClass 0x07 (.zeroPage z) aslStep oraA s
/-- 0F: SLO Absolute (R196). -/
def execSloAbs (w : Addr) (s : State) : Out := compositeClass 0x0F (.absolute w) aslStep oraA s
/-- 13: SLO IndirectY (R196). -/
def execSloIndY (z : Byte) (s : State) : Out := compositeClass 0x13 (.indirectY z) aslStep oraA s
/-- 17: SLO ZeroPageX (R196). -/
def execSloZpX (z : Byte) (s : State) : Out := compositeClass 0x17 (.zeroPageX z) aslStep oraA s
/-- 1B: SLO AbsoluteY (R196). -/
def execSloAbsY (w : Addr) (s : State) : Out := compositeClass 0x1B (.absoluteY w) aslStep oraA s
/-- 1F: SLO AbsoluteX (R196). -/
def execSloAbsX (w : Addr) (s : State) : Out := compositeClass 0x1F (.absoluteX w) aslStep oraA s

/-- 23: RLA IndirectX (R197). -/
def execRlaIndX (z : Byte) (s : State) : Out := compositeClass 0x23 (.indirectX z) rolStep andA s
/-- 27: RLA ZeroPage (R197). -/
def execRlaZp (z : Byte) (s : State) : Out := compositeClass 0x27 (.zeroPage z) rolStep andA s
/-- 2F: RLA Absolute (R197). -/
def execRlaAbs (w : Addr) (s : State) : Out := compositeClass 0x2F (.absolute w) rolStep andA s
/-- 33: RLA IndirectY (R197). -/
def execRlaIndY (z : Byte) (s : State) : Out := compositeClass 0x33 (.indirectY z) rolStep andA s
/-- 37: RLA ZeroPageX (R197). -/
def execRlaZpX (z : Byte) (s : State) : Out := compositeClass 0x37 (.zeroPageX z) rolStep andA s
/-- 3B: RLA AbsoluteY (R197). -/
def execRlaAbsY (w : Addr) (s : State) : Out := compositeClass 0x3B (.absoluteY w) rolStep andA s
/-- 3F: RLA AbsoluteX (R197). -/
def execRlaAbsX (w : Addr) (s : State) : Out := compositeClass 0x3F (.absoluteX w) rolStep andA s

/-- 43: SRE IndirectX (R198). -/
def execSreIndX (z : Byte) (s : State) : Out := compositeClass 0x43 (.indirectX z) lsrStep eorA s
/-- 47: SRE ZeroPage (R198). -/
def execSreZp (z : Byte) (s : State) : Out := compositeClass 0x47 (.zeroPage z) lsrStep eorA s
/-- 4F: SRE Absolute (R198). -/
def execSreAbs (w : Addr) (s : State) : Out := compositeClass 0x4F (.absolute w) lsrStep eorA s
/-- 53: SRE IndirectY (R198). -/
def execSreIndY (z : Byte) (s : State) : Out := compositeClass 0x53 (.indirectY z) lsrStep eorA s
/-- 57: SRE ZeroPageX (R198). -/
def execSreZpX (z : Byte) (s : State) : Out := compositeClass 0x57 (.zeroPageX z) lsrStep eorA s
/-- 5B: SRE AbsoluteY (R198). -/
def execSreAbsY (w : Addr) (s : State) : Out := compositeClass 0x5B (.absoluteY w) lsrStep eorA s
/-- 5F: SRE AbsoluteX (R198). -/
def execSreAbsX (w : Addr) (s : State) : Out := compositeClass 0x5F (.absoluteX w) lsrStep eorA s

/-- 63: RRA IndirectX (R199). -/
def execRraIndX (z : Byte) (s : State) : Out := compositeClass 0x63 (.indirectX z) rorStep adcA s
/-- 67: RRA ZeroPage (R199). -/
def execRraZp (z : Byte) (s : State) : Out := compositeClass 0x67 (.zeroPage z) rorStep adcA s
/-- 6F: RRA Absolute (R199). -/
def execRraAbs (w : Addr) (s : State) : Out := compositeClass 0x6F (.absolute w) rorStep adcA s
/-- 73: RRA IndirectY (R199). -/
def execRraIndY (z : Byte) (s : State) : Out := compositeClass 0x73 (.indirectY z) rorStep adcA s
/-- 77: RRA ZeroPageX (R199). -/
def execRraZpX (z : Byte) (s : State) : Out := compositeClass 0x77 (.zeroPageX z) rorStep adcA s
/-- 7B: RRA AbsoluteY (R199). -/
def execRraAbsY (w : Addr) (s : State) : Out := compositeClass 0x7B (.absoluteY w) rorStep adcA s
/-- 7F: RRA AbsoluteX (R199). -/
def execRraAbsX (w : Addr) (s : State) : Out := compositeClass 0x7F (.absoluteX w) rorStep adcA s

/-- C3: DCP IndirectX (R200). -/
def execDcpIndX (z : Byte) (s : State) : Out := compositeClass 0xC3 (.indirectX z) decStep cmpA s
/-- C7: DCP ZeroPage (R200). -/
def execDcpZp (z : Byte) (s : State) : Out := compositeClass 0xC7 (.zeroPage z) decStep cmpA s
/-- CF: DCP Absolute (R200). -/
def execDcpAbs (w : Addr) (s : State) : Out := compositeClass 0xCF (.absolute w) decStep cmpA s
/-- D3: DCP IndirectY (R200). -/
def execDcpIndY (z : Byte) (s : State) : Out := compositeClass 0xD3 (.indirectY z) decStep cmpA s
/-- D7: DCP ZeroPageX (R200). -/
def execDcpZpX (z : Byte) (s : State) : Out := compositeClass 0xD7 (.zeroPageX z) decStep cmpA s
/-- DB: DCP AbsoluteY (R200). -/
def execDcpAbsY (w : Addr) (s : State) : Out := compositeClass 0xDB (.absoluteY w) decStep cmpA s
/-- DF: DCP AbsoluteX (R200). -/
def execDcpAbsX (w : Addr) (s : State) : Out := compositeClass 0xDF (.absoluteX w) decStep cmpA s

/-- E3: ISB IndirectX (R201). -/
def execIsbIndX (z : Byte) (s : State) : Out := compositeClass 0xE3 (.indirectX z) incStep sbcA s
/-- E7: ISB ZeroPage (R201). -/
def execIsbZp (z : Byte) (s : State) : Out := compositeClass 0xE7 (.zeroPage z) incStep sbcA s
/-- EF: ISB Absolute (R201). -/
def execIsbAbs (w : Addr) (s : State) : Out := compositeClass 0xEF (.absolute w) incStep sbcA s
/-- F3: ISB IndirectY (R201). -/
def execIsbIndY (z : Byte) (s : State) : Out := compositeClass 0xF3 (.indirectY z) incStep sbcA s
/-- F7: ISB ZeroPageX (R201). -/
def execIsbZpX (z : Byte) (s : State) : Out := compositeClass 0xF7 (.zeroPageX z) incStep sbcA s
/-- FB: ISB AbsoluteY (R201). -/
def execIsbAbsY (w : Addr) (s : State) : Out := compositeClass 0xFB (.absoluteY w) incStep sbcA s
/-- FF: ISB AbsoluteX (R201). -/
def execIsbAbsX (w : Addr) (s : State) : Out := compositeClass 0xFF (.absoluteX w) incStep sbcA s

end Sys2Proof.Machine
end

