-- ==== Sys2Proof/Machine/Trap.lean ====
section
/-! DEFINITION. The 25 trap opcodes (spec/46_illegal.md R202): each raises Fatal (spec/60_exceptions.md R210). -/

namespace Sys2Proof.Machine

open Sys2Proof

/-- A trap opcode takes the Fatal exception and has no other effect (R202, R210). -/
def trapClass (op : Byte) (s : State) : Out := .next (raiseFatal op s)

/-- 02: JAM trap slot (R202). -/
def execJam02 (s : State) : Out := trapClass 0x02 s
/-- 12: JAM trap slot (R202). -/
def execJam12 (s : State) : Out := trapClass 0x12 s
/-- 22: JAM trap slot (R202). -/
def execJam22 (s : State) : Out := trapClass 0x22 s
/-- 32: JAM trap slot (R202). -/
def execJam32 (s : State) : Out := trapClass 0x32 s
/-- 42: JAM trap slot (R202). -/
def execJam42 (s : State) : Out := trapClass 0x42 s
/-- 52: JAM trap slot (R202). -/
def execJam52 (s : State) : Out := trapClass 0x52 s
/-- 62: JAM trap slot (R202). -/
def execJam62 (s : State) : Out := trapClass 0x62 s
/-- 72: JAM trap slot (R202). -/
def execJam72 (s : State) : Out := trapClass 0x72 s
/-- 92: JAM trap slot (R202). -/
def execJam92 (s : State) : Out := trapClass 0x92 s
/-- B2: JAM trap slot (R202). -/
def execJamB2 (s : State) : Out := trapClass 0xB2 s
/-- D2: JAM trap slot (R202). -/
def execJamD2 (s : State) : Out := trapClass 0xD2 s
/-- F2: JAM trap slot (R202). -/
def execJamF2 (s : State) : Out := trapClass 0xF2 s

/-- 0B: ANC trap slot (R202). -/
def execAnc0B (s : State) : Out := trapClass 0x0B s
/-- 2B: ANC trap slot (R202). -/
def execAnc2B (s : State) : Out := trapClass 0x2B s

/-- 4B: ALR trap slot (R202). -/
def execAlr (s : State) : Out := trapClass 0x4B s

/-- 6B: ARR trap slot (R202). -/
def execArr (s : State) : Out := trapClass 0x6B s

/-- 8B: XAA trap slot (R202). -/
def execXaa (s : State) : Out := trapClass 0x8B s

/-- 93: SHA trap slot (R202). -/
def execSha93 (s : State) : Out := trapClass 0x93 s
/-- 9F: SHA trap slot (R202). -/
def execSha9F (s : State) : Out := trapClass 0x9F s

/-- 9B: TAS trap slot (R202). -/
def execTas (s : State) : Out := trapClass 0x9B s

/-- 9C: SHY trap slot (R202). -/
def execShy (s : State) : Out := trapClass 0x9C s

/-- 9E: SHX trap slot (R202). -/
def execShx (s : State) : Out := trapClass 0x9E s

/-- AB: LXA trap slot (R202). -/
def execLxa (s : State) : Out := trapClass 0xAB s

/-- BB: LAS trap slot (R202). -/
def execLas (s : State) : Out := trapClass 0xBB s

/-- CB: SBX trap slot (R202). -/
def execSbx (s : State) : Out := trapClass 0xCB s

end Sys2Proof.Machine
end

