-- ==== Sys2Proof/Machine/Step.lean ====
section
/-! DEFINITION. One step of the machine: the driver's next call. -/

namespace Sys2Proof.Machine

open Sys2Proof

/-- One step is one call of the driver, run to completion (spec/10_state.md R36, spec/60_exceptions.md R217). -/
def step (s : State) : Host.Outcome State Fault Refusal := performCall exec (nextCall s).1 (nextCall s).2

/-- `s` with the instruction whose bits are `w` (the bits from `nbits` on zero) at PC, so that the very next step is a
`tick()` that runs it: the driver's next call is `tick()`, the bus is plain RAM, PC has a value and no Fatal stands. -/
def State.withFetchWord (s : State) (nbits w : Nat) : State :=
  { s with
    mem := placeBytes 3 (w % 2 ^ nbits) s.pc s.mem
    calls := []
    script := []
    pcValid := true
    halted := none }

end Sys2Proof.Machine
end

