-- ==== Sys2Proof/Certificates/Slice0/Forms.lean ====
section
/-! DEFINITION. Vocabulary of the statements: the "Encoding:" clause of each instruction rule R100 to R201 of spec/,
row by row: the instruction, its opcode byte, its byte length, its base cycles, and whether "(+1 if crossed)" stands
there. Where a rule lists no form for an addressing mode, the list is empty. -/

namespace Sys2Proof.Spec

open Sys2Proof

/-- One entry of an "Encoding:" clause. -/
structure FormRow where
  instr : Instr
  opcode : Byte
  length : Nat
  cycles : Nat
  plusIfCrossed : Bool

/-- R100: the forms of LDA with a memory operand. -/
def ldaRows : MemOperand → List FormRow
  | .indirectX z => [⟨.ldaIndX z, 0xA1, 2, 6, false⟩]
  | .zeroPage z => [⟨.ldaZp z, 0xA5, 2, 3, false⟩]
  | .absolute w => [⟨.ldaAbs w, 0xAD, 3, 4, false⟩]
  | .indirectY z => [⟨.ldaIndY z, 0xB1, 2, 5, true⟩]
  | .zeroPageX z => [⟨.ldaZpX z, 0xB5, 2, 4, false⟩]
  | .absoluteY w => [⟨.ldaAbsY w, 0xB9, 3, 4, true⟩]
  | .absoluteX w => [⟨.ldaAbsX w, 0xBD, 3, 4, true⟩]
  | _ => []

/-- R100, Immediate. -/
def ldaImmRow (v : Byte) : FormRow := ⟨.ldaImm v, 0xA9, 2, 2, false⟩

/-- R101: the forms of LDX with a memory operand. -/
def ldxRows : MemOperand → List FormRow
  | .zeroPage z => [⟨.ldxZp z, 0xA6, 2, 3, false⟩]
  | .absolute w => [⟨.ldxAbs w, 0xAE, 3, 4, false⟩]
  | .zeroPageY z => [⟨.ldxZpY z, 0xB6, 2, 4, false⟩]
  | .absoluteY w => [⟨.ldxAbsY w, 0xBE, 3, 4, true⟩]
  | _ => []

/-- R101, Immediate. -/
def ldxImmRow (v : Byte) : FormRow := ⟨.ldxImm v, 0xA2, 2, 2, false⟩

/-- R102: the forms of LDY with a memory operand. -/
def ldyRows : MemOperand → List FormRow
  | .zeroPage z => [⟨.ldyZp z, 0xA4, 2, 3, false⟩]
  | .absolute w => [⟨.ldyAbs w, 0xAC, 3, 4, false⟩]
  | .zeroPageX z => [⟨.ldyZpX z, 0xB4, 2, 4, false⟩]
  | .absoluteX w => [⟨.ldyAbsX w, 0xBC, 3, 4, true⟩]
  | _ => []

/-- R102, Immediate. -/
def ldyImmRow (v : Byte) : FormRow := ⟨.ldyImm v, 0xA0, 2, 2, false⟩

/-- R103: the forms of STA with a memory operand. -/
def staRows : MemOperand → List FormRow
  | .indirectX z => [⟨.staIndX z, 0x81, 2, 6, false⟩]
  | .zeroPage z => [⟨.staZp z, 0x85, 2, 3, false⟩]
  | .absolute w => [⟨.staAbs w, 0x8D, 3, 4, false⟩]
  | .indirectY z => [⟨.staIndY z, 0x91, 2, 6, false⟩]
  | .zeroPageX z => [⟨.staZpX z, 0x95, 2, 4, false⟩]
  | .absoluteY w => [⟨.staAbsY w, 0x99, 3, 5, false⟩]
  | .absoluteX w => [⟨.staAbsX w, 0x9D, 3, 5, false⟩]
  | _ => []

/-- R104: the forms of STX with a memory operand. -/
def stxRows : MemOperand → List FormRow
  | .zeroPage z => [⟨.stxZp z, 0x86, 2, 3, false⟩]
  | .absolute w => [⟨.stxAbs w, 0x8E, 3, 4, false⟩]
  | .zeroPageY z => [⟨.stxZpY z, 0x96, 2, 4, false⟩]
  | _ => []

/-- R105: the forms of STY with a memory operand. -/
def styRows : MemOperand → List FormRow
  | .zeroPage z => [⟨.styZp z, 0x84, 2, 3, false⟩]
  | .absolute w => [⟨.styAbs w, 0x8C, 3, 4, false⟩]
  | .zeroPageX z => [⟨.styZpX z, 0x94, 2, 4, false⟩]
  | _ => []

/-- R106, Implied. -/
def taxRow : FormRow := ⟨.tax, 0xAA, 1, 2, false⟩

/-- R107, Implied. -/
def tayRow : FormRow := ⟨.tay, 0xA8, 1, 2, false⟩

/-- R108, Implied. -/
def txaRow : FormRow := ⟨.txa, 0x8A, 1, 2, false⟩

/-- R109, Implied. -/
def tyaRow : FormRow := ⟨.tya, 0x98, 1, 2, false⟩

/-- R110, Implied. -/
def tsxRow : FormRow := ⟨.tsx, 0xBA, 1, 2, false⟩

/-- R111, Implied. -/
def txsRow : FormRow := ⟨.txs, 0x9A, 1, 2, false⟩

/-- R122: the forms of ADC with a memory operand. -/
def adcRows : MemOperand → List FormRow
  | .indirectX z => [⟨.adcIndX z, 0x61, 2, 6, false⟩]
  | .zeroPage z => [⟨.adcZp z, 0x65, 2, 3, false⟩]
  | .absolute w => [⟨.adcAbs w, 0x6D, 3, 4, false⟩]
  | .indirectY z => [⟨.adcIndY z, 0x71, 2, 5, true⟩]
  | .zeroPageX z => [⟨.adcZpX z, 0x75, 2, 4, false⟩]
  | .absoluteY w => [⟨.adcAbsY w, 0x79, 3, 4, true⟩]
  | .absoluteX w => [⟨.adcAbsX w, 0x7D, 3, 4, true⟩]
  | _ => []

/-- R122, Immediate. -/
def adcImmRow (v : Byte) : FormRow := ⟨.adcImm v, 0x69, 2, 2, false⟩

/-- R123: the forms of SBC with a memory operand. -/
def sbcRows : MemOperand → List FormRow
  | .indirectX z => [⟨.sbcIndX z, 0xE1, 2, 6, false⟩]
  | .zeroPage z => [⟨.sbcZp z, 0xE5, 2, 3, false⟩]
  | .absolute w => [⟨.sbcAbs w, 0xED, 3, 4, false⟩]
  | .indirectY z => [⟨.sbcIndY z, 0xF1, 2, 5, true⟩]
  | .zeroPageX z => [⟨.sbcZpX z, 0xF5, 2, 4, false⟩]
  | .absoluteY w => [⟨.sbcAbsY w, 0xF9, 3, 4, true⟩]
  | .absoluteX w => [⟨.sbcAbsX w, 0xFD, 3, 4, true⟩]
  | _ => []

/-- R123, Immediate. -/
def sbcImmRow (v : Byte) : FormRow := ⟨.sbcImm v, 0xE9, 2, 2, false⟩

/-- R124: the forms of AND with a memory operand. -/
def andRows : MemOperand → List FormRow
  | .indirectX z => [⟨.andIndX z, 0x21, 2, 6, false⟩]
  | .zeroPage z => [⟨.andZp z, 0x25, 2, 3, false⟩]
  | .absolute w => [⟨.andAbs w, 0x2D, 3, 4, false⟩]
  | .indirectY z => [⟨.andIndY z, 0x31, 2, 5, true⟩]
  | .zeroPageX z => [⟨.andZpX z, 0x35, 2, 4, false⟩]
  | .absoluteY w => [⟨.andAbsY w, 0x39, 3, 4, true⟩]
  | .absoluteX w => [⟨.andAbsX w, 0x3D, 3, 4, true⟩]
  | _ => []

/-- R124, Immediate. -/
def andImmRow (v : Byte) : FormRow := ⟨.andImm v, 0x29, 2, 2, false⟩

/-- R125: the forms of ORA with a memory operand. -/
def oraRows : MemOperand → List FormRow
  | .indirectX z => [⟨.oraIndX z, 0x01, 2, 6, false⟩]
  | .zeroPage z => [⟨.oraZp z, 0x05, 2, 3, false⟩]
  | .absolute w => [⟨.oraAbs w, 0x0D, 3, 4, false⟩]
  | .indirectY z => [⟨.oraIndY z, 0x11, 2, 5, true⟩]
  | .zeroPageX z => [⟨.oraZpX z, 0x15, 2, 4, false⟩]
  | .absoluteY w => [⟨.oraAbsY w, 0x19, 3, 4, true⟩]
  | .absoluteX w => [⟨.oraAbsX w, 0x1D, 3, 4, true⟩]
  | _ => []

/-- R125, Immediate. -/
def oraImmRow (v : Byte) : FormRow := ⟨.oraImm v, 0x09, 2, 2, false⟩

/-- R126: the forms of EOR with a memory operand. -/
def eorRows : MemOperand → List FormRow
  | .indirectX z => [⟨.eorIndX z, 0x41, 2, 6, false⟩]
  | .zeroPage z => [⟨.eorZp z, 0x45, 2, 3, false⟩]
  | .absolute w => [⟨.eorAbs w, 0x4D, 3, 4, false⟩]
  | .indirectY z => [⟨.eorIndY z, 0x51, 2, 5, true⟩]
  | .zeroPageX z => [⟨.eorZpX z, 0x55, 2, 4, false⟩]
  | .absoluteY w => [⟨.eorAbsY w, 0x59, 3, 4, true⟩]
  | .absoluteX w => [⟨.eorAbsX w, 0x5D, 3, 4, true⟩]
  | _ => []

/-- R126, Immediate. -/
def eorImmRow (v : Byte) : FormRow := ⟨.eorImm v, 0x49, 2, 2, false⟩

/-- R127: the forms of CMP with a memory operand. -/
def cmpRows : MemOperand → List FormRow
  | .indirectX z => [⟨.cmpIndX z, 0xC1, 2, 6, false⟩]
  | .zeroPage z => [⟨.cmpZp z, 0xC5, 2, 3, false⟩]
  | .absolute w => [⟨.cmpAbs w, 0xCD, 3, 4, false⟩]
  | .indirectY z => [⟨.cmpIndY z, 0xD1, 2, 5, true⟩]
  | .zeroPageX z => [⟨.cmpZpX z, 0xD5, 2, 4, false⟩]
  | .absoluteY w => [⟨.cmpAbsY w, 0xD9, 3, 4, true⟩]
  | .absoluteX w => [⟨.cmpAbsX w, 0xDD, 3, 4, true⟩]
  | _ => []

/-- R127, Immediate. -/
def cmpImmRow (v : Byte) : FormRow := ⟨.cmpImm v, 0xC9, 2, 2, false⟩

/-- R128: the forms of CPX with a memory operand. -/
def cpxRows : MemOperand → List FormRow
  | .zeroPage z => [⟨.cpxZp z, 0xE4, 2, 3, false⟩]
  | .absolute w => [⟨.cpxAbs w, 0xEC, 3, 4, false⟩]
  | _ => []

/-- R128, Immediate. -/
def cpxImmRow (v : Byte) : FormRow := ⟨.cpxImm v, 0xE0, 2, 2, false⟩

/-- R129: the forms of CPY with a memory operand. -/
def cpyRows : MemOperand → List FormRow
  | .zeroPage z => [⟨.cpyZp z, 0xC4, 2, 3, false⟩]
  | .absolute w => [⟨.cpyAbs w, 0xCC, 3, 4, false⟩]
  | _ => []

/-- R129, Immediate. -/
def cpyImmRow (v : Byte) : FormRow := ⟨.cpyImm v, 0xC0, 2, 2, false⟩

/-- R130: the forms of BIT with a memory operand. -/
def bitRows : MemOperand → List FormRow
  | .zeroPage z => [⟨.bitZp z, 0x24, 2, 3, false⟩]
  | .absolute w => [⟨.bitAbs w, 0x2C, 3, 4, false⟩]
  | _ => []

/-- R131: the forms of INC with a memory operand. -/
def incRows : MemOperand → List FormRow
  | .zeroPage z => [⟨.incZp z, 0xE6, 2, 5, false⟩]
  | .absolute w => [⟨.incAbs w, 0xEE, 3, 6, false⟩]
  | .zeroPageX z => [⟨.incZpX z, 0xF6, 2, 6, false⟩]
  | .absoluteX w => [⟨.incAbsX w, 0xFE, 3, 7, false⟩]
  | _ => []

/-- R132: the forms of DEC with a memory operand. -/
def decRows : MemOperand → List FormRow
  | .zeroPage z => [⟨.decZp z, 0xC6, 2, 5, false⟩]
  | .absolute w => [⟨.decAbs w, 0xCE, 3, 6, false⟩]
  | .zeroPageX z => [⟨.decZpX z, 0xD6, 2, 6, false⟩]
  | .absoluteX w => [⟨.decAbsX w, 0xDE, 3, 7, false⟩]
  | _ => []

/-- R133, Implied. -/
def inxRow : FormRow := ⟨.inx, 0xE8, 1, 2, false⟩

/-- R134, Implied. -/
def inyRow : FormRow := ⟨.iny, 0xC8, 1, 2, false⟩

/-- R135, Implied. -/
def dexRow : FormRow := ⟨.dex, 0xCA, 1, 2, false⟩

/-- R136, Implied. -/
def deyRow : FormRow := ⟨.dey, 0x88, 1, 2, false⟩

/-- R140: the forms of ASL with a memory operand. -/
def aslRows : MemOperand → List FormRow
  | .zeroPage z => [⟨.aslZp z, 0x06, 2, 5, false⟩]
  | .absolute w => [⟨.aslAbs w, 0x0E, 3, 6, false⟩]
  | .zeroPageX z => [⟨.aslZpX z, 0x16, 2, 6, false⟩]
  | .absoluteX w => [⟨.aslAbsX w, 0x1E, 3, 7, false⟩]
  | _ => []

/-- R140, Accumulator. -/
def aslARow : FormRow := ⟨.aslA, 0x0A, 1, 2, false⟩

/-- R141: the forms of LSR with a memory operand. -/
def lsrRows : MemOperand → List FormRow
  | .zeroPage z => [⟨.lsrZp z, 0x46, 2, 5, false⟩]
  | .absolute w => [⟨.lsrAbs w, 0x4E, 3, 6, false⟩]
  | .zeroPageX z => [⟨.lsrZpX z, 0x56, 2, 6, false⟩]
  | .absoluteX w => [⟨.lsrAbsX w, 0x5E, 3, 7, false⟩]
  | _ => []

/-- R141, Accumulator. -/
def lsrARow : FormRow := ⟨.lsrA, 0x4A, 1, 2, false⟩

/-- R142: the forms of ROL with a memory operand. -/
def rolRows : MemOperand → List FormRow
  | .zeroPage z => [⟨.rolZp z, 0x26, 2, 5, false⟩]
  | .absolute w => [⟨.rolAbs w, 0x2E, 3, 6, false⟩]
  | .zeroPageX z => [⟨.rolZpX z, 0x36, 2, 6, false⟩]
  | .absoluteX w => [⟨.rolAbsX w, 0x3E, 3, 7, false⟩]
  | _ => []

/-- R142, Accumulator. -/
def rolARow : FormRow := ⟨.rolA, 0x2A, 1, 2, false⟩

/-- R143: the forms of ROR with a memory operand. -/
def rorRows : MemOperand → List FormRow
  | .zeroPage z => [⟨.rorZp z, 0x66, 2, 5, false⟩]
  | .absolute w => [⟨.rorAbs w, 0x6E, 3, 6, false⟩]
  | .zeroPageX z => [⟨.rorZpX z, 0x76, 2, 6, false⟩]
  | .absoluteX w => [⟨.rorAbsX w, 0x7E, 3, 7, false⟩]
  | _ => []

/-- R143, Accumulator. -/
def rorARow : FormRow := ⟨.rorA, 0x6A, 1, 2, false⟩

/-- R151, Relative. -/
def bccRow (off : Byte) : FormRow := ⟨.bcc off, 0x90, 2, 2, false⟩

/-- R152, Relative. -/
def bcsRow (off : Byte) : FormRow := ⟨.bcs off, 0xB0, 2, 2, false⟩

/-- R153, Relative. -/
def beqRow (off : Byte) : FormRow := ⟨.beq off, 0xF0, 2, 2, false⟩

/-- R154, Relative. -/
def bneRow (off : Byte) : FormRow := ⟨.bne off, 0xD0, 2, 2, false⟩

/-- R155, Relative. -/
def bmiRow (off : Byte) : FormRow := ⟨.bmi off, 0x30, 2, 2, false⟩

/-- R156, Relative. -/
def bplRow (off : Byte) : FormRow := ⟨.bpl off, 0x10, 2, 2, false⟩

/-- R157, Relative. -/
def bvcRow (off : Byte) : FormRow := ⟨.bvc off, 0x50, 2, 2, false⟩

/-- R158, Relative. -/
def bvsRow (off : Byte) : FormRow := ⟨.bvs off, 0x70, 2, 2, false⟩

/-- R159, Absolute. -/
def jmpAbsRow (w : Addr) : FormRow := ⟨.jmpAbs w, 0x4C, 3, 3, false⟩

/-- R159, Indirect. -/
def jmpIndRow (w : Addr) : FormRow := ⟨.jmpInd w, 0x6C, 3, 5, false⟩

/-- R160, Absolute. -/
def jsrRow (w : Addr) : FormRow := ⟨.jsr w, 0x20, 3, 6, false⟩

/-- R161, Implied. -/
def rtsRow : FormRow := ⟨.rts, 0x60, 1, 6, false⟩

/-- R170, Implied. -/
def phaRow : FormRow := ⟨.pha, 0x48, 1, 3, false⟩

/-- R171, Implied. -/
def phpRow : FormRow := ⟨.php, 0x08, 1, 3, false⟩

/-- R172, Implied. -/
def plaRow : FormRow := ⟨.pla, 0x68, 1, 4, false⟩

/-- R173, Implied. -/
def plpRow : FormRow := ⟨.plp, 0x28, 1, 4, false⟩

/-- R174, Implied. -/
def clcRow : FormRow := ⟨.clc, 0x18, 1, 2, false⟩

/-- R175, Implied. -/
def secRow : FormRow := ⟨.sec, 0x38, 1, 2, false⟩

/-- R176, Implied. -/
def cliRow : FormRow := ⟨.cli, 0x58, 1, 2, false⟩

/-- R177, Implied. -/
def seiRow : FormRow := ⟨.sei, 0x78, 1, 2, false⟩

/-- R178, Implied. -/
def cldRow : FormRow := ⟨.cld, 0xD8, 1, 2, false⟩

/-- R179, Implied. -/
def sedRow : FormRow := ⟨.sed, 0xF8, 1, 2, false⟩

/-- R180, Implied. -/
def clvRow : FormRow := ⟨.clv, 0xB8, 1, 2, false⟩

/-- R181, Implied. -/
def brkRow : FormRow := ⟨.brk, 0x00, 2, 7, false⟩

/-- R182, Implied. -/
def rtiRow : FormRow := ⟨.rti, 0x40, 1, 6, false⟩

/-- R183, Implied. -/
def nopRow : FormRow := ⟨.nop, 0xEA, 1, 2, false⟩

/-- R191: the forms of NOP with a memory operand. -/
def nopIllegalRows : MemOperand → List FormRow
  | .zeroPage z => [⟨.nopZp04 z, 0x04, 2, 3, false⟩, ⟨.nopZp44 z, 0x44, 2, 3, false⟩, ⟨.nopZp64 z, 0x64, 2, 3, false⟩]
  | .absolute w => [⟨.nopAbs0C w, 0x0C, 3, 4, false⟩]
  | .zeroPageX z => [⟨.nopZpX14 z, 0x14, 2, 4, false⟩, ⟨.nopZpX34 z, 0x34, 2, 4, false⟩, ⟨.nopZpX54 z, 0x54, 2, 4, false⟩, ⟨.nopZpX74 z, 0x74, 2, 4, false⟩, ⟨.nopZpXD4 z, 0xD4, 2, 4, false⟩, ⟨.nopZpXF4 z, 0xF4, 2, 4, false⟩]
  | .absoluteX w => [⟨.nopAbsX1C w, 0x1C, 3, 4, true⟩, ⟨.nopAbsX3C w, 0x3C, 3, 4, true⟩, ⟨.nopAbsX5C w, 0x5C, 3, 4, true⟩, ⟨.nopAbsX7C w, 0x7C, 3, 4, true⟩, ⟨.nopAbsXDC w, 0xDC, 3, 4, true⟩, ⟨.nopAbsXFC w, 0xFC, 3, 4, true⟩]
  | _ => []

/-- R191: the Immediate forms. -/
def nopIllegalImmRows (v : Byte) : List FormRow :=
  [⟨.nopImm80 v, 0x80, 2, 2, false⟩,
    ⟨.nopImm82 v, 0x82, 2, 2, false⟩,
    ⟨.nopImm89 v, 0x89, 2, 2, false⟩,
    ⟨.nopImmC2 v, 0xC2, 2, 2, false⟩,
    ⟨.nopImmE2 v, 0xE2, 2, 2, false⟩]

/-- R191: the Implied forms. -/
def nopIllegalImpliedRows : List FormRow :=
  [⟨.nopImp1A, 0x1A, 1, 2, false⟩,
    ⟨.nopImp3A, 0x3A, 1, 2, false⟩,
    ⟨.nopImp5A, 0x5A, 1, 2, false⟩,
    ⟨.nopImp7A, 0x7A, 1, 2, false⟩,
    ⟨.nopImpDA, 0xDA, 1, 2, false⟩,
    ⟨.nopImpFA, 0xFA, 1, 2, false⟩]

/-- R192: the forms of LAX with a memory operand. -/
def laxRows : MemOperand → List FormRow
  | .indirectX z => [⟨.laxIndX z, 0xA3, 2, 6, false⟩]
  | .zeroPage z => [⟨.laxZp z, 0xA7, 2, 3, false⟩]
  | .absolute w => [⟨.laxAbs w, 0xAF, 3, 4, false⟩]
  | .indirectY z => [⟨.laxIndY z, 0xB3, 2, 5, true⟩]
  | .zeroPageY z => [⟨.laxZpY z, 0xB7, 2, 4, false⟩]
  | .absoluteY w => [⟨.laxAbsY w, 0xBF, 3, 4, true⟩]
  | _ => []

/-- R193: the forms of SAX with a memory operand. -/
def saxRows : MemOperand → List FormRow
  | .indirectX z => [⟨.saxIndX z, 0x83, 2, 6, false⟩]
  | .zeroPage z => [⟨.saxZp z, 0x87, 2, 3, false⟩]
  | .absolute w => [⟨.saxAbs w, 0x8F, 3, 4, false⟩]
  | .zeroPageY z => [⟨.saxZpY z, 0x97, 2, 4, false⟩]
  | _ => []

/-- R194, Immediate. -/
def sbcIllegalImmRow (v : Byte) : FormRow := ⟨.sbcImmEB v, 0xEB, 2, 2, false⟩

/-- R196: the forms of SLO with a memory operand. -/
def sloRows : MemOperand → List FormRow
  | .indirectX z => [⟨.sloIndX z, 0x03, 2, 8, false⟩]
  | .zeroPage z => [⟨.sloZp z, 0x07, 2, 5, false⟩]
  | .absolute w => [⟨.sloAbs w, 0x0F, 3, 6, false⟩]
  | .indirectY z => [⟨.sloIndY z, 0x13, 2, 8, false⟩]
  | .zeroPageX z => [⟨.sloZpX z, 0x17, 2, 6, false⟩]
  | .absoluteY w => [⟨.sloAbsY w, 0x1B, 3, 7, false⟩]
  | .absoluteX w => [⟨.sloAbsX w, 0x1F, 3, 7, false⟩]
  | _ => []

/-- R197: the forms of RLA with a memory operand. -/
def rlaRows : MemOperand → List FormRow
  | .indirectX z => [⟨.rlaIndX z, 0x23, 2, 8, false⟩]
  | .zeroPage z => [⟨.rlaZp z, 0x27, 2, 5, false⟩]
  | .absolute w => [⟨.rlaAbs w, 0x2F, 3, 6, false⟩]
  | .indirectY z => [⟨.rlaIndY z, 0x33, 2, 8, false⟩]
  | .zeroPageX z => [⟨.rlaZpX z, 0x37, 2, 6, false⟩]
  | .absoluteY w => [⟨.rlaAbsY w, 0x3B, 3, 7, false⟩]
  | .absoluteX w => [⟨.rlaAbsX w, 0x3F, 3, 7, false⟩]
  | _ => []

/-- R198: the forms of SRE with a memory operand. -/
def sreRows : MemOperand → List FormRow
  | .indirectX z => [⟨.sreIndX z, 0x43, 2, 8, false⟩]
  | .zeroPage z => [⟨.sreZp z, 0x47, 2, 5, false⟩]
  | .absolute w => [⟨.sreAbs w, 0x4F, 3, 6, false⟩]
  | .indirectY z => [⟨.sreIndY z, 0x53, 2, 8, false⟩]
  | .zeroPageX z => [⟨.sreZpX z, 0x57, 2, 6, false⟩]
  | .absoluteY w => [⟨.sreAbsY w, 0x5B, 3, 7, false⟩]
  | .absoluteX w => [⟨.sreAbsX w, 0x5F, 3, 7, false⟩]
  | _ => []

/-- R199: the forms of RRA with a memory operand. -/
def rraRows : MemOperand → List FormRow
  | .indirectX z => [⟨.rraIndX z, 0x63, 2, 8, false⟩]
  | .zeroPage z => [⟨.rraZp z, 0x67, 2, 5, false⟩]
  | .absolute w => [⟨.rraAbs w, 0x6F, 3, 6, false⟩]
  | .indirectY z => [⟨.rraIndY z, 0x73, 2, 8, false⟩]
  | .zeroPageX z => [⟨.rraZpX z, 0x77, 2, 6, false⟩]
  | .absoluteY w => [⟨.rraAbsY w, 0x7B, 3, 7, false⟩]
  | .absoluteX w => [⟨.rraAbsX w, 0x7F, 3, 7, false⟩]
  | _ => []

/-- R200: the forms of DCP with a memory operand. -/
def dcpRows : MemOperand → List FormRow
  | .indirectX z => [⟨.dcpIndX z, 0xC3, 2, 8, false⟩]
  | .zeroPage z => [⟨.dcpZp z, 0xC7, 2, 5, false⟩]
  | .absolute w => [⟨.dcpAbs w, 0xCF, 3, 6, false⟩]
  | .indirectY z => [⟨.dcpIndY z, 0xD3, 2, 8, false⟩]
  | .zeroPageX z => [⟨.dcpZpX z, 0xD7, 2, 6, false⟩]
  | .absoluteY w => [⟨.dcpAbsY w, 0xDB, 3, 7, false⟩]
  | .absoluteX w => [⟨.dcpAbsX w, 0xDF, 3, 7, false⟩]
  | _ => []

/-- R201: the forms of ISB with a memory operand. -/
def isbRows : MemOperand → List FormRow
  | .indirectX z => [⟨.isbIndX z, 0xE3, 2, 8, false⟩]
  | .zeroPage z => [⟨.isbZp z, 0xE7, 2, 5, false⟩]
  | .absolute w => [⟨.isbAbs w, 0xEF, 3, 6, false⟩]
  | .indirectY z => [⟨.isbIndY z, 0xF3, 2, 8, false⟩]
  | .zeroPageX z => [⟨.isbZpX z, 0xF7, 2, 6, false⟩]
  | .absoluteY w => [⟨.isbAbsY w, 0xFB, 3, 7, false⟩]
  | .absoluteX w => [⟨.isbAbsX w, 0xFF, 3, 7, false⟩]
  | _ => []

/-- R202: the 25 trap opcodes, each with its instruction. -/
def trapRows : List (Byte × Instr) :=
  [(0x02, .jam02), (0x0B, .anc0B), (0x12, .jam12), (0x22, .jam22), (0x2B, .anc2B),
    (0x32, .jam32), (0x42, .jam42), (0x4B, .alr), (0x52, .jam52), (0x62, .jam62),
    (0x6B, .arr), (0x72, .jam72), (0x8B, .xaa), (0x92, .jam92), (0x93, .sha93),
    (0x9B, .tas), (0x9C, .shy), (0x9E, .shx), (0x9F, .sha9F), (0xAB, .lxa),
    (0xB2, .jamB2), (0xBB, .las), (0xCB, .sbx), (0xD2, .jamD2), (0xF2, .jamF2)]

end Sys2Proof.Spec
end

