-- ==== Sys2Proof/Certificates/Slice0/Vocabulary.lean ====
section
/-! DEFINITION. Vocabulary of the statements: what is unchanged, what an instruction of a class does around its own
effect, and readings of memory and flags that do not go through the meanings. -/

namespace Sys2Proof.Spec

open Sys2Proof Sys2Proof.Machine

/-- The Fatal record, `pc_valid` and the driver's calls are unchanged: the state that is no register, flag or memory. -/
def SameControl (s t : State) : Prop := t.halted = s.halted ∧ t.pcValid = s.pcValid ∧ t.calls = s.calls

/-- Every byte of memory reads as before. -/
def SameMemory (s t : State) : Prop := ∀ b, Memory.read t.mem b = Memory.read s.mem b

/-- Every byte of memory outside the listed addresses reads as before. -/
def SameMemoryBut (at_ : List Nat) (s t : State) : Prop :=
  ∀ b, b ∉ at_ → Memory.read t.mem b = Memory.read s.mem b

/-- Every bit of P outside the listed ones is unchanged. -/
def SameFlagsBut (bits : List Nat) (s t : State) : Prop :=
  ∀ k, k < 8 → k ∉ bits → t.p.getLsbD k = s.p.getLsbD k

/-- The bus stands as it stood in `s`: no access was made since, and no answer was taken. -/
def SameBus (s t : State) : Prop := t.accesses = s.accesses ∧ t.script = s.script

/-- A, X, Y and SP are unchanged. -/
def SameRegisters (s t : State) : Prop := t.a = s.a ∧ t.x = s.x ∧ t.y = s.y ∧ t.sp = s.sp

/-- The bus is plain RAM, in the canonical form that `Inv` says every step keeps. -/
def PlainRam (s : State) : Prop := s.script = [] ∧ Memory.wf s.mem = true

/-- `SetZN(v)` of 10_state.md R28: Z is 1 exactly when the byte is 0, N is its bit 7. -/
def ZeroNegativeOf (v : Byte) (t : State) : Prop := (flagZ t.p = true ↔ v = 0) ∧ flagN t.p = v.getLsbD 7

/-- Memory's word with its low byte at `l` and its high byte at `h`. -/
def ramWord (m : Memory) (l h : Nat) : Nat := (Memory.read m l).toNat + 256 * (Memory.read m h).toNat

/-- The address SP designates, as a number (10_state.md R25). -/
def slot (sp : Byte) : Nat := 256 + sp.toNat

/-- What the bus answers to the one read at the effective address, and the state after that read (40_addressing.md R93). -/
def operand (m : MemOperand) (s : State) : Byte × State := busRead (resolve m s).ea (resolve m s).state

/-- The row's instruction has the row's opcode and length and, executed in `s`, answers a next state that returned the
count and meets `post`; nothing of `SameControl` changes. -/
def Completes (row : FormRow) (count : Nat) (s : State) (post : State → Prop) : Prop :=
  row.instr.opcode = row.opcode ∧ (encode row.instr).length = row.length ∧
    ∃ t, exec row.instr s = .next t ∧ t.returned = .cycles count ∧ SameControl s t ∧ post t

/-- `Completes` for an instruction that transfers no control: PC moves past its bytes, and the count is the row's, and
one more where the row says "+1 if crossed" and a page was crossed. -/
def Runs (row : FormRow) (crossed : Bool) (s : State) (post : State → Prop) : Prop :=
  Completes row (row.cycles + if row.plusIfCrossed && crossed then 1 else 0) s fun t =>
    t.pc = s.pc + BitVec.ofNat 16 row.length ∧ post t

/-- Every memory form of a read-class instruction: the operand byte is the bus's answer at the effective address, the
only accesses are the resolver's and that read, and no byte of memory changes. -/
def ReadsThen (rows : MemOperand → List FormRow) (post : Byte → State → State → Prop) : Prop :=
  ∀ s m, ∀ row ∈ rows m, Runs row (resolve m s).crossed s fun t =>
    post (operand m s).1 s t ∧ SameMemory s t ∧ SameBus (operand m s).2 t

/-- The Immediate form: the operand byte is in the instruction, and there is no access. -/
def ImmediateThen (row : Byte → FormRow) (post : Byte → State → State → Prop) : Prop :=
  ∀ s v, Runs (row v) false s fun t => post v s t ∧ SameMemory s t ∧ SameBus s t

/-- An implied form without an access. -/
def ImpliedThen (row : FormRow) (post : State → State → Prop) : Prop :=
  ∀ s, Runs row false s fun t => post s t ∧ SameMemory s t ∧ SameBus s t

/-- The byte was written at the address: by the access recorded last, into RAM where the bus is plain RAM, and no other
byte of memory changed. `r` is the state the write was made in. -/
def WritesByte (a : Addr) (v : Byte) (s r t : State) : Prop :=
  t.accesses = r.accesses ++ [.write a v] ∧ (PlainRam s → Memory.read t.mem a.toNat = v) ∧
    SameMemoryBut [a.toNat] s t

/-- Every form of a store-class instruction: one write at the effective address, no read there, no flag and no register
changed. -/
def StoresThen (rows : MemOperand → List FormRow) (value : State → Byte) : Prop :=
  ∀ s m, ∀ row ∈ rows m, Runs row (resolve m s).crossed s fun t =>
    SameRegisters s t ∧ t.p = s.p ∧ WritesByte (resolve m s).ea (value s) s (resolve m s).state t

/-- Every memory form of an RMW-class instruction: one read, then one write of `new` at the effective address; `post`
relates the byte read to the state after. -/
def ModifiesThen (rows : MemOperand → List FormRow) (new : Byte → State → Byte) (post : Byte → State → State → Prop) :
    Prop :=
  ∀ s m, ∀ row ∈ rows m, Runs row (resolve m s).crossed s fun t =>
    post (operand m s).1 s t ∧ WritesByte (resolve m s).ea (new (operand m s).1 s) s (operand m s).2 t

/-- The Accumulator form of an RMW-class instruction: A is the operand and takes the new byte; no access. -/
def AccumulatorThen (row : FormRow) (new : Byte → State → Byte) (post : Byte → State → State → Prop) : Prop :=
  ∀ s, Runs row false s fun t =>
    post s.a s t ∧ t.a = new s.a s ∧ t.x = s.x ∧ t.y = s.y ∧ t.sp = s.sp ∧ SameMemory s t ∧ SameBus s t

/-- A shift or rotate gives `new` with the bit shifted out in C, Z and N from the new byte, no other flag (R140 to
R143). -/
def ShiftFlags (new : Byte → State → Byte) (out : Nat) (v : Byte) (s t : State) : Prop :=
  flagC t.p = v.getLsbD out ∧ ZeroNegativeOf (new v s) t ∧ SameFlagsBut [0, 1, 7] s t

/-- A's new value and the flags C, V, Z, N are those of adding `b` and the carry `c` to the old A (42_arithmetic_logic.md
R120), computed on exact numbers; nothing else changes. -/
def AddsToA (b : Byte) (c : Bool) (s t : State) : Prop :=
  let sum := s.a.toNat + b.toNat + c.toNat
  t.a.toNat = sum % 256 ∧ (flagC t.p = true ↔ sum > 255) ∧
    (flagV t.p = true ↔ (t.a ^^^ s.a) &&& (t.a ^^^ b) &&& 0x80 ≠ 0) ∧ ZeroNegativeOf t.a t ∧
    SameFlagsBut [0, 1, 6, 7] s t ∧ t.x = s.x ∧ t.y = s.y ∧ t.sp = s.sp

/-- The flags of comparing `reg` with `m` (R121), and nothing else changed. -/
def Compared (reg m : Byte) (s t : State) : Prop :=
  (flagC t.p = true ↔ m.toNat ≤ reg.toNat) ∧ (flagZ t.p = true ↔ reg = m) ∧ flagN t.p = (reg - m).getLsbD 7 ∧
    SameFlagsBut [0, 1, 7] s t ∧ SameRegisters s t

/-- Nothing changed but Z and N, which are those of `v`, and the registers, of which `regs` speaks. -/
def SetsZN (v : Byte) (regs : Prop) (s t : State) : Prop := ZeroNegativeOf v t ∧ SameFlagsBut [1, 7] s t ∧ regs

/-- The mnemonic of an instruction in the descriptor table. -/
def mnemonic (i : Instr) : String := (descriptor i.opcode).mnemonic

/-- Whether an access is a write. -/
def isWrite : BusAccess → Bool
  | .write _ _ => true
  | .read _ _ => false

/-- How many writes the class of an instruction makes (20_memory.md R45, 46_illegal.md R195). -/
def writesOf (i : Instr) : Nat :=
  if mnemonic i = "BRK" then 3
  else if mnemonic i = "JSR" then 2
  else if mnemonic i ∈ ["STA", "STX", "STY", "SAX", "INC", "DEC", "SLO", "RLA", "SRE", "RRA", "DCP", "ISB", "PHA", "PHP"]
  then 1
  else if mnemonic i ∈ ["ASL", "LSR", "ROL", "ROR"] ∧ (descriptor i.opcode).mode ≠ some .accumulator then 1
  else 0

/-- The invariant of the machine: memory is in its canonical form, P's bit 5 is 1 (10_state.md R34), and a Fatal record
is that of a trap opcode with PC and the registers as they still are (60_exceptions.md R210, R212). -/
def Inv (s : State) : Prop :=
  Memory.wf s.mem = true ∧ s.p.getLsbD 5 = true ∧
    ∀ r, s.halted = some r →
      (descriptor r.opcode).slot = .trap ∧ r.pc = s.pc ∧ r.registers = s.registers ∧ s.pcValid = true

end Sys2Proof.Spec
end

