-- ==== Sys2Proof/Safety.lean ====
section
/-! DEFINITION. What counts as a safe run: the core is booted and no Fatal stands. -/

namespace Sys2Proof.Safety

open Sys2Proof Sys2Proof.Machine

/-- The interrupt controller's state Running (spec/60_exceptions.md R219): reset was called and no Fatal stands. -/
def Running (s : State) : Prop := s.pcValid = true ∧ s.halted = none

/-- The interrupt controller's state NotReset (R219): PC has no value yet, and no Fatal stands. -/
def NotReset (s : State) : Prop := s.pcValid = false ∧ s.halted = none

/-- The states a run from `s` passes through: one step for each call of the driver. -/
inductive Reaches (s : State) : State → Prop where
  | here : Reaches s s
  | next {t u : State} : Reaches s t → step t = .next u → Reaches s u

/-- A safe run: every state it passes through is Running. -/
def Safe (s : State) : Prop := ∀ t, Reaches s t → Running t

end Sys2Proof.Safety
end

