-- ==== Sys2Proof/Certificates/Slice0/Obligations.lean ====
section
/-! DEFINITION. The statements for the provers. Each one's docstring names the rules of spec/ it formalises; "D<n>" is a
decision the spec marks as its own (92_eei_decisions.md), "log <n>" a row of notes/assumptions/. -/

open Sys2Proof Sys2Proof.Machine Sys2Proof.Spec

/-! ### Loads, stores, transfers -/

/-- LDA, LDX and LDY (R100, R101, R102): the byte goes into the register, Z and N come from it. -/
def Obligations.LoadsPutTheByteInTheRegister : Prop :=
  let lda := fun v s t => SetsZN v (t.a = v ∧ t.x = s.x ∧ t.y = s.y ∧ t.sp = s.sp) s t
  let ldx := fun v s t => SetsZN v (t.x = v ∧ t.a = s.a ∧ t.y = s.y ∧ t.sp = s.sp) s t
  let ldy := fun v s t => SetsZN v (t.y = v ∧ t.a = s.a ∧ t.x = s.x ∧ t.sp = s.sp) s t
  ReadsThen ldaRows lda ∧ ImmediateThen ldaImmRow lda ∧ ReadsThen ldxRows ldx ∧ ImmediateThen ldxImmRow ldx ∧
    ReadsThen ldyRows ldy ∧ ImmediateThen ldyImmRow ldy

/-- STA, STX and STY (R103, R104, R105): one write of the register at the effective address, no flag. -/
def Obligations.StoresWriteTheRegister : Prop :=
  StoresThen staRows State.a ∧ StoresThen stxRows State.x ∧ StoresThen styRows State.y

/-- TAX, TAY, TXA, TYA and TSX (R106 to R110). -/
def Obligations.TransfersCopyAndSetZN : Prop :=
  ImpliedThen taxRow (fun s t => SetsZN s.a (t.x = s.a ∧ t.a = s.a ∧ t.y = s.y ∧ t.sp = s.sp) s t) ∧
  ImpliedThen tayRow (fun s t => SetsZN s.a (t.y = s.a ∧ t.a = s.a ∧ t.x = s.x ∧ t.sp = s.sp) s t) ∧
  ImpliedThen txaRow (fun s t => SetsZN s.x (t.a = s.x ∧ t.x = s.x ∧ t.y = s.y ∧ t.sp = s.sp) s t) ∧
  ImpliedThen tyaRow (fun s t => SetsZN s.y (t.a = s.y ∧ t.x = s.x ∧ t.y = s.y ∧ t.sp = s.sp) s t) ∧
  ImpliedThen tsxRow (fun s t => SetsZN s.sp (t.x = s.sp ∧ t.a = s.a ∧ t.y = s.y ∧ t.sp = s.sp) s t)

/-- TXS (R111; that it sets no flag is the spec's "on the 6502 it sets no flag [from general knowledge, not in
source]"). -/
def Obligations.TxsCopiesXToSpWithoutFlags : Prop :=
  ImpliedThen txsRow fun s t => t.sp = s.x ∧ t.a = s.a ∧ t.x = s.x ∧ t.y = s.y ∧ t.p = s.p

/-! ### Arithmetic, logic, compares, counters -/

/-- ADC (R122): the exact sum of A, the byte and the carry. -/
def Obligations.AdcAddsByteAndCarry : Prop :=
  let adc := fun v s t => AddsToA v (flagC s.p) s t
  ReadsThen adcRows adc ∧ ImmediateThen adcImmRow adc

/-- SBC, legal and 0xEB (R123, R194): ADC with the byte inverted, which is A - M - (1 - C) with C the absence of a borrow
(the spec's "[derived: from rule R120]"; 0xEB is its "identity with 0xE9 [from general knowledge, not in source]"). -/
def Obligations.SbcSubtractsByteAndBorrow : Prop :=
  let sbc := fun v s t => AddsToA (~~~v) (flagC s.p) s t ∧
    (t.a.toNat : Int) = ((s.a.toNat : Int) - v.toNat - (1 - (flagC s.p).toNat)) % 256 ∧
    (flagC t.p = true ↔ v.toNat + (1 - (flagC s.p).toNat) ≤ s.a.toNat)
  ReadsThen sbcRows sbc ∧ ImmediateThen sbcImmRow sbc ∧ ImmediateThen sbcIllegalImmRow sbc

/-- AND, ORA and EOR (R124, R125, R126). -/
def Obligations.LogicalInstructionsCombineWithA : Prop :=
  let into := fun (r : Byte) s t => SetsZN r (t.a = r ∧ t.x = s.x ∧ t.y = s.y ∧ t.sp = s.sp) s t
  let and_ := fun v s t => into (s.a &&& v) s t
  let ora := fun v s t => into (s.a ||| v) s t
  let eor := fun v s t => into (s.a ^^^ v) s t
  ReadsThen andRows and_ ∧ ImmediateThen andImmRow and_ ∧ ReadsThen oraRows ora ∧ ImmediateThen oraImmRow ora ∧
    ReadsThen eorRows eor ∧ ImmediateThen eorImmRow eor

/-- CMP, CPX and CPY (R121, R127, R128, R129): C, Z and N of the comparison, V and every register unchanged. -/
def Obligations.ComparesSetOnlyTheirFlags : Prop :=
  let cmp := fun v s t => Compared s.a v s t
  let cpx := fun v s t => Compared s.x v s t
  let cpy := fun v s t => Compared s.y v s t
  ReadsThen cmpRows cmp ∧ ImmediateThen cmpImmRow cmp ∧ ReadsThen cpxRows cpx ∧ ImmediateThen cpxImmRow cpx ∧
    ReadsThen cpyRows cpy ∧ ImmediateThen cpyImmRow cpy

/-- BIT (R130): Z from `A & M`, N and V from bits 7 and 6 of M. -/
def Obligations.BitTestsAgainstA : Prop :=
  ReadsThen bitRows fun v s t =>
    (flagZ t.p = true ↔ s.a &&& v = 0) ∧ flagN t.p = v.getLsbD 7 ∧ flagV t.p = v.getLsbD 6 ∧
      SameFlagsBut [1, 6, 7] s t ∧ SameRegisters s t

/-- INC and DEC (R131, R132): the byte at EA one up or down modulo 256. -/
def Obligations.IncAndDecModifyMemory : Prop :=
  let inc : Byte → State → Byte := fun v _ => v + 1
  let dec : Byte → State → Byte := fun v _ => v - 1
  ModifiesThen incRows inc (fun v s t => SetsZN (v + 1) (SameRegisters s t) s t) ∧
    ModifiesThen decRows dec (fun v s t => SetsZN (v - 1) (SameRegisters s t) s t)

/-- INX, INY, DEX and DEY (R133 to R136). -/
def Obligations.CountersStepXAndY : Prop :=
  ImpliedThen inxRow (fun s t => SetsZN (s.x + 1) (t.x = s.x + 1 ∧ t.a = s.a ∧ t.y = s.y ∧ t.sp = s.sp) s t) ∧
  ImpliedThen inyRow (fun s t => SetsZN (s.y + 1) (t.y = s.y + 1 ∧ t.a = s.a ∧ t.x = s.x ∧ t.sp = s.sp) s t) ∧
  ImpliedThen dexRow (fun s t => SetsZN (s.x - 1) (t.x = s.x - 1 ∧ t.a = s.a ∧ t.y = s.y ∧ t.sp = s.sp) s t) ∧
  ImpliedThen deyRow (fun s t => SetsZN (s.y - 1) (t.y = s.y - 1 ∧ t.a = s.a ∧ t.x = s.x ∧ t.sp = s.sp) s t)

/-- The adder's V is signed overflow: the two's-complement sum leaves -128 to 127 (the spec's "[derived: from the
formula]" in R120). -/
def Obligations.AdderOverflowIsSignedOverflow : Prop :=
  ∀ (a b : Byte) (c : Bool),
    (addWithCarry a b c).overflow = true ↔ a.toInt + b.toInt + (c.toNat : Int) < -128 ∨ 127 < a.toInt + b.toInt + (c.toNat : Int)

/-- SBC undoes ADC when its carry is the negation of ADC's carry-in (90_conflicts.md C2, the corrected law). -/
def Obligations.SbcWithNegatedCarryUndoesAdc : Prop :=
  ∀ (s : State) (v : Byte), ∃ t u,
    exec (.adcImm v) s = .next t ∧
    exec (.sbcImm v) { t with p := setC (!flagC s.p) t.p } = .next u ∧ u.a = s.a

/-- D is inert (R32, R137, D21): but for PHP and BRK, which push P, and the traps, which record it, an instruction does
the same whatever D holds, D itself apart. -/
def Obligations.DecimalFlagChangesNoResult : Prop :=
  ∀ (i : Instr) (s : State) (d : Bool), mnemonic i ∉ ["PHP", "BRK"] → (descriptor i.opcode).slot ≠ .trap →
    ∃ t u, exec i s = .next t ∧ exec i { s with p := setD d s.p } = .next u ∧
      { t with p := setD false t.p } = { u with p := setD false u.p }

/-! ### Shifts and rotates -/

/-- ASL and LSR (R140, R141), in A and in memory. -/
def Obligations.ShiftsMoveTheByteOneBit : Prop :=
  let asl : Byte → State → Byte := fun v _ => BitVec.ofNat 8 (2 * v.toNat)
  let lsr : Byte → State → Byte := fun v _ => BitVec.ofNat 8 (v.toNat / 2)
  ModifiesThen aslRows asl (fun v s t => ShiftFlags asl 7 v s t ∧ SameRegisters s t) ∧
  AccumulatorThen aslARow asl (ShiftFlags asl 7) ∧
  ModifiesThen lsrRows lsr (fun v s t => ShiftFlags lsr 0 v s t ∧ SameRegisters s t) ∧
  AccumulatorThen lsrARow lsr (fun v s t => ShiftFlags lsr 0 v s t ∧ flagN t.p = false)

/-- ROL and ROR (R142, R143): the previous carry enters at the vacated end. -/
def Obligations.RotatesPassThroughCarry : Prop :=
  let rol : Byte → State → Byte := fun v s => BitVec.ofNat 8 (2 * v.toNat + (flagC s.p).toNat)
  let ror : Byte → State → Byte := fun v s => BitVec.ofNat 8 (v.toNat / 2 + 128 * (flagC s.p).toNat)
  ModifiesThen rolRows rol (fun v s t => ShiftFlags rol 7 v s t ∧ SameRegisters s t) ∧
  AccumulatorThen rolARow rol (ShiftFlags rol 7) ∧
  ModifiesThen rorRows ror (fun v s t => ShiftFlags ror 0 v s t ∧ SameRegisters s t) ∧
  AccumulatorThen rorARow ror (ShiftFlags ror 0)

/-! ### Branches, jumps, calls, returns -/

/-- The eight branches (R150 to R158): taken exactly when the named flag has the named value, for one more cycle, or two
on another page than the next instruction's; else PC + 2. Nothing else changes. -/
def Obligations.BranchesFollowTheirCondition : Prop :=
  ∀ (s : State) (off : Byte),
    let target := s.pc + 2 + off.signExtend 16
    let crossed := (s.pc + 2).toNat / 256 ≠ target.toNat / 256
    let branch := fun (row : Byte → FormRow) (cond : Bool) =>
      Completes (row off) ((row off).cycles + if cond then (if crossed then 2 else 1) else 0) s fun t =>
        t.pc = (if cond then target else s.pc + 2) ∧ t.p = s.p ∧ SameRegisters s t ∧ SameMemory s t ∧ SameBus s t
    branch bccRow (!flagC s.p) ∧ branch bcsRow (flagC s.p) ∧ branch beqRow (flagZ s.p) ∧ branch bneRow (!flagZ s.p) ∧
    branch bmiRow (flagN s.p) ∧ branch bplRow (!flagN s.p) ∧ branch bvcRow (!flagV s.p) ∧ branch bvsRow (flagV s.p)

/-- JMP Absolute and Indirect (R159, R90): PC takes the operand word, or the word at the pointer, whose high byte is read
from the start of the pointer's page when the pointer's low byte is 0xFF. -/
def Obligations.JmpTakesItsTarget : Prop :=
  ∀ (s : State) (w : Addr),
    Completes (jmpAbsRow w) (jmpAbsRow w).cycles s (fun t =>
      t.pc = w ∧ t.p = s.p ∧ SameRegisters s t ∧ SameMemory s t ∧ SameBus s t) ∧
    Completes (jmpIndRow w) (jmpIndRow w).cycles s (fun t =>
      let high := if w.toNat % 256 = 255 then w.toNat - 255 else w.toNat + 1
      (s.script = [] → t.pc.toNat = ramWord s.mem w.toNat high) ∧
      (∃ l h, t.accesses = s.accesses ++ [.read w l, .read (BitVec.ofNat 16 high) h] ∧
        t.pc.toNat = l.toNat + 256 * h.toNat) ∧
      t.p = s.p ∧ SameRegisters s t ∧ SameMemory s t)

/-- JSR (R160): the address of its last byte is pushed, high byte first, and PC takes the operand word. -/
def Obligations.JsrPushesItsReturnAddress : Prop :=
  ∀ (s : State) (w : Addr),
    Completes (jsrRow w) (jsrRow w).cycles s fun t =>
      let ret := s.pc + 2
      t.pc = w ∧ t.sp = s.sp - 2 ∧ t.p = s.p ∧ t.a = s.a ∧ t.x = s.x ∧ t.y = s.y ∧
      t.accesses = s.accesses ++ [.write (BitVec.ofNat 16 (slot s.sp)) (BitVec.ofNat 8 (ret.toNat / 256)),
        .write (BitVec.ofNat 16 (slot (s.sp - 1))) (BitVec.ofNat 8 ret.toNat)] ∧
      (PlainRam s → ramWord t.mem (slot (s.sp - 1)) (slot s.sp) = ret.toNat) ∧
      SameMemoryBut [slot s.sp, slot (s.sp - 1)] s t

/-- RTS (R161): PC takes the pulled word, low byte first, plus one. -/
def Obligations.RtsReturnsPastTheCall : Prop :=
  ∀ (s : State),
    Completes rtsRow rtsRow.cycles s fun t =>
      (∃ l h, t.accesses = s.accesses ++ [.read (BitVec.ofNat 16 (slot (s.sp + 1))) l,
        .read (BitVec.ofNat 16 (slot (s.sp + 2))) h] ∧ t.pc.toNat = (l.toNat + 256 * h.toNat + 1) % 65536) ∧
      (s.script = [] → t.pc.toNat = (ramWord s.mem (slot (s.sp + 1)) (slot (s.sp + 2)) + 1) % 65536) ∧
      t.sp = s.sp + 2 ∧ t.p = s.p ∧ t.a = s.a ∧ t.x = s.x ∧ t.y = s.y ∧ SameMemory s t

/-- On a plain-RAM bus RTS executed at JSR's target returns to the instruction after the JSR, with SP, the flags and A,
X, Y as they were (95_test_vectors.md 1.6). -/
def Obligations.JsrThenRtsComesBack : Prop :=
  ∀ (s : State) (w : Addr), PlainRam s →
    ∃ t u, exec (.jsr w) s = .next t ∧ exec .rts t = .next u ∧ u.pc = s.pc + 3 ∧ SameRegisters s u ∧ u.p = s.p

/-! ### Stack, flags, NOP -/

/-- PHA and PHP (R170, R171): one push; PHP's byte has B = 1 and U = 1. -/
def Obligations.PushesWriteOneStackByte : Prop :=
  ∀ (s : State),
    let pushed := fun (v : Byte) (t : State) =>
      t.sp = s.sp - 1 ∧ t.p = s.p ∧ t.a = s.a ∧ t.x = s.x ∧ t.y = s.y ∧
        WritesByte (BitVec.ofNat 16 (slot s.sp)) v s s t
    Runs phaRow false s (pushed s.a) ∧ Runs phpRow false s (pushed (s.p ||| 0x30))

/-- PLA and PLP (R172, R173): one pull; PLP keeps the live B and forces U. -/
def Obligations.PullsReadOneStackByte : Prop :=
  ∀ (s : State),
    let pulled := fun (post : Byte → State → Prop) (t : State) =>
      ∃ v, t.accesses = s.accesses ++ [.read (BitVec.ofNat 16 (slot (s.sp + 1))) v] ∧
        (s.script = [] → v = Memory.read s.mem (slot (s.sp + 1))) ∧
        t.sp = s.sp + 1 ∧ t.x = s.x ∧ t.y = s.y ∧ SameMemory s t ∧ post v t
    Runs plaRow false s (pulled fun v t => t.a = v ∧ ZeroNegativeOf v t ∧ SameFlagsBut [1, 7] s t) ∧
    Runs plpRow false s (pulled fun v t => t.a = s.a ∧ t.p = (v &&& 0xCF) ||| (s.p &&& 0x10) ||| 0x20)

/-- CLC, SEC, CLI, SEI, CLD, SED and CLV (R174 to R180, whose meanings are the spec's "[from general knowledge, not in
source]"): the named flag takes the named value and nothing else changes. -/
def Obligations.FlagInstructionsWriteOneFlag : Prop :=
  let sets := fun (k : Nat) (b : Bool) (s t : State) => t.p.getLsbD k = b ∧ SameFlagsBut [k] s t ∧ SameRegisters s t
  ImpliedThen clcRow (sets 0 false) ∧ ImpliedThen secRow (sets 0 true) ∧ ImpliedThen cliRow (sets 2 false) ∧
  ImpliedThen seiRow (sets 2 true) ∧ ImpliedThen cldRow (sets 3 false) ∧ ImpliedThen sedRow (sets 3 true) ∧
  ImpliedThen clvRow (sets 6 false)

/-- NOP 0xEA (R183): nothing but the PC advance. -/
def Obligations.NopOnlyAdvancesPc : Prop :=
  ImpliedThen nopRow fun s t => t.p = s.p ∧ SameRegisters s t

/-- The 27 undocumented NOPs (R191, R97): those with a memory operand make the one read and discard it (D18).
For the Immediate NOPs that read is the fetch's, so `exec` makes no access (log 10, the model's choice; D19). -/
def Obligations.IllegalNopsDiscardTheirOperand : Prop :=
  let nop := fun (_ : Byte) s t => t.p = s.p ∧ SameRegisters s t
  ReadsThen nopIllegalRows nop ∧
  (∀ s v, ∀ row ∈ nopIllegalImmRows v, Runs row false s fun t => nop v s t ∧ SameMemory s t ∧ SameBus s t) ∧
  (∀ row ∈ nopIllegalImpliedRows, ImpliedThen row fun s t => t.p = s.p ∧ SameRegisters s t)

/-! ### Undocumented operations -/

/-- LAX and SAX (R192, R193, whose definitions are the spec's "[from general knowledge, not in source]"). -/
def Obligations.LaxAndSaxUseAAndX : Prop :=
  ReadsThen laxRows (fun v s t => SetsZN v (t.a = v ∧ t.x = v ∧ t.y = s.y ∧ t.sp = s.sp) s t) ∧
  StoresThen saxRows (fun s => s.a &&& s.x)

/-- SLO, RLA and SRE (R195 to R198, D5): memory is shifted or rotated, then combined into A; C is the bit shifted out,
Z and N come from A. -/
def Obligations.ShiftCompositesCombineIntoA : Prop :=
  let slo : Byte → State → Byte := fun v _ => BitVec.ofNat 8 (2 * v.toNat)
  let rla : Byte → State → Byte := fun v s => BitVec.ofNat 8 (2 * v.toNat + (flagC s.p).toNat)
  let sre : Byte → State → Byte := fun v _ => BitVec.ofNat 8 (v.toNat / 2)
  let post := fun (a : Byte) (out : Bool) (s t : State) =>
    t.a = a ∧ flagC t.p = out ∧ ZeroNegativeOf a t ∧ SameFlagsBut [0, 1, 7] s t ∧ t.x = s.x ∧ t.y = s.y ∧ t.sp = s.sp
  ModifiesThen sloRows slo (fun v s t => post (s.a ||| slo v s) (v.getLsbD 7) s t) ∧
  ModifiesThen rlaRows rla (fun v s t => post (s.a &&& rla v s) (v.getLsbD 7) s t) ∧
  ModifiesThen sreRows sre (fun v s t => post (s.a ^^^ sre v s) (v.getLsbD 0) s t)

/-- RRA, DCP and ISB (R195, R199 to R201, D5): memory is rotated, decremented or incremented, then added with the
rotate's carry, compared or subtracted. -/
def Obligations.ArithmeticCompositesWorkOnTheNewByte : Prop :=
  let rra : Byte → State → Byte := fun v s => BitVec.ofNat 8 (v.toNat / 2 + 128 * (flagC s.p).toNat)
  let dcp : Byte → State → Byte := fun v _ => v - 1
  let isb : Byte → State → Byte := fun v _ => v + 1
  ModifiesThen rraRows rra (fun v s t => AddsToA (rra v s) (v.getLsbD 0) s t) ∧
  ModifiesThen dcpRows dcp (fun v s t => Compared s.a (v - 1) s t) ∧
  ModifiesThen isbRows isb (fun v s t => AddsToA (~~~(v + 1)) (flagC s.p) s t)

/-! ### BRK, RTI, Fatal, interrupts, reset -/

/-- BRK (R181, R218, R222; taken whatever I holds, the spec's "[derived: the source puts no condition on it]"): PC + 2
and `P | 0x30` are pushed, I is set, PC comes from 0xFFFE. -/
def Obligations.BrkEntersTheHandler : Prop :=
  ∀ (s : State),
    Completes brkRow brkRow.cycles s fun t =>
      let ret := s.pc + 2
      (∃ l h, t.pc.toNat = l.toNat + 256 * h.toNat ∧ t.accesses = s.accesses ++
        [.write (BitVec.ofNat 16 (slot s.sp)) (BitVec.ofNat 8 (ret.toNat / 256)),
         .write (BitVec.ofNat 16 (slot (s.sp - 1))) (BitVec.ofNat 8 ret.toNat),
         .write (BitVec.ofNat 16 (slot (s.sp - 2))) (s.p ||| 0x30), .read 0xFFFE l, .read 0xFFFF h]) ∧
      (PlainRam s → t.pc.toNat = ramWord s.mem 0xFFFE 0xFFFF ∧
        ramWord t.mem (slot (s.sp - 1)) (slot s.sp) = ret.toNat ∧ Memory.read t.mem (slot (s.sp - 2)) = s.p ||| 0x30) ∧
      t.sp = s.sp - 3 ∧ flagI t.p = true ∧ SameFlagsBut [2] s t ∧ t.a = s.a ∧ t.x = s.x ∧ t.y = s.y ∧
      SameMemoryBut [slot s.sp, slot (s.sp - 1), slot (s.sp - 2)] s t

/-- RTI (R182, R223): P is pulled with U forced to 1 and B taken from the pulled byte (D6), then PC, with no +1. -/
def Obligations.RtiRestoresStatusAndPc : Prop :=
  ∀ (s : State),
    Completes rtiRow rtiRow.cycles s fun t =>
      (∃ p l h, t.p = p ||| 0x20 ∧ t.pc.toNat = l.toNat + 256 * h.toNat ∧ t.accesses = s.accesses ++
        [.read (BitVec.ofNat 16 (slot (s.sp + 1))) p, .read (BitVec.ofNat 16 (slot (s.sp + 2))) l,
         .read (BitVec.ofNat 16 (slot (s.sp + 3))) h]) ∧
      (s.script = [] → t.p = Memory.read s.mem (slot (s.sp + 1)) ||| 0x20 ∧
        t.pc.toNat = ramWord s.mem (slot (s.sp + 2)) (slot (s.sp + 3))) ∧
      t.sp = s.sp + 3 ∧ t.a = s.a ∧ t.x = s.x ∧ t.y = s.y ∧ SameMemory s t

/-- The 25 trap opcodes (R202, R210, R212): Fatal records the opcode, PC and the registers; no register, flag or byte of
memory changes, no access is made and no count is returned. Which slots trap is the spec's decision D1;
that Fatal is a next state is log 7, that `exec` looks at neither `halted` nor `pcValid` is log 11: the model's choice. -/
def Obligations.TrapOpcodesRaiseFatal : Prop :=
  trapRows.length = 25 ∧ ∀ (s : State), ∀ row ∈ trapRows, row.2.opcode = row.1 ∧
    exec row.2 s = .next { s with
      halted := some { opcode := row.1, pc := s.pc, registers := s.registers }, returned := .fatal }

/-- A halted core makes no step (R210, D12): `tick()`, `nmi()`, `irq()` and `reset()` answer a next state that differs
only in the outputs of the call, and `get_registers()` still answers. That such a call is a next state is log 7, the model's choice. -/
def Obligations.HaltedCoreMakesNoStep : Prop :=
  ∀ (s : State) (rest : List Call), s.halted ≠ none →
    (∀ c ∈ [Call.tick, Call.nmi, Call.irq, Call.reset],
      step { s with calls := c :: rest } = .next { s with calls := rest, accesses := [], returned := .noStep }) ∧
    step { s with calls := .getRegisters :: rest } =
      .next { s with calls := rest, accesses := [], returned := .registers s.registers }

/-- The status byte that is pushed (R35): PHP and BRK push P with B = 1 and U = 1, NMI and a taken IRQ push P with B = 0
and U = 1, whatever the live bits are. -/
def Obligations.PushedStatusShowsWhoPushed : Prop :=
  ∀ (s : State), PlainRam s →
    (∃ t, exec .php s = .next t ∧ Memory.read t.mem (slot s.sp) = s.p ||| 0x30) ∧
    (∃ t, exec .brk s = .next t ∧ Memory.read t.mem (slot (s.sp - 2)) = s.p ||| 0x30) ∧
    (s.halted = none → s.pcValid = true →
      (∃ t, nmi s = .next t ∧ Memory.read t.mem (slot (s.sp - 2)) = (s.p &&& 0xEF) ||| 0x20) ∧
      (flagI s.p = false → ∃ t, irq s = .next t ∧ Memory.read t.mem (slot (s.sp - 2)) = (s.p &&& 0xEF) ||| 0x20))

/-- Bit 5 of P (R34): PLP and RTI force it to 1, each push of P (PHP, BRK, `nmi()`, a taken `irq()`) has it as 1, and
`get_registers()` reports it as 1; no premise on the stored bit. -/
def Obligations.UnusedStatusBitReadsAsOne : Prop :=
  let pushedWithU := fun (k : Byte) (s t : State) => (Memory.read t.mem (slot (s.sp - k))).getLsbD 5 = true
  ∀ s : State,
    (∃ t, exec .plp s = .next t ∧ flagU t.p = true) ∧ (∃ t, exec .rti s = .next t ∧ flagU t.p = true) ∧
    (∃ t r, getRegisters s = .next t ∧ t.returned = .registers r ∧ flagU r.p = true) ∧
    (PlainRam s →
      (∃ t, exec .php s = .next t ∧ pushedWithU 0 s t) ∧ (∃ t, exec .brk s = .next t ∧ pushedWithU 2 s t) ∧
      (s.halted = none → s.pcValid = true →
        (∃ t, nmi s = .next t ∧ pushedWithU 2 s t) ∧ (flagI s.p = false → ∃ t, irq s = .next t ∧ pushedWithU 2 s t)))

/-- `nmi()` (R215, R222): taken whatever I holds; PC and P with B = 0 are pushed, I is set, no other flag changes (D7),
PC comes from 0xFFFA, and the count is 7 (D3). -/
def Obligations.NmiEntersTheHandler : Prop :=
  ∀ (s : State) (rest : List Call), s.halted = none → s.pcValid = true →
    ∃ t, step { s with calls := .nmi :: rest } = .next t ∧ t.returned = .cycles 7 ∧
      (∃ l h, t.pc.toNat = l.toNat + 256 * h.toNat ∧ t.accesses =
        [.write (BitVec.ofNat 16 (slot s.sp)) (BitVec.ofNat 8 (s.pc.toNat / 256)),
         .write (BitVec.ofNat 16 (slot (s.sp - 1))) (BitVec.ofNat 8 s.pc.toNat),
         .write (BitVec.ofNat 16 (slot (s.sp - 2))) ((s.p &&& 0xEF) ||| 0x20), .read 0xFFFA l, .read 0xFFFB h]) ∧
      (s.script = [] → t.pc.toNat = ramWord s.mem 0xFFFA 0xFFFB) ∧
      t.sp = s.sp - 3 ∧ flagI t.p = true ∧ SameFlagsBut [2] s t ∧ t.a = s.a ∧ t.x = s.x ∧ t.y = s.y ∧
      t.halted = none ∧ t.pcValid = true ∧ t.calls = rest ∧
      SameMemoryBut [slot s.sp, slot (s.sp - 1), slot (s.sp - 2)] s t

/-- `irq()` (R214, R216): with I = 1 nothing happens, the count is 0 and the request is forgotten (D2, D3); with I = 0
the entry of `nmi()` through 0xFFFE. -/
def Obligations.IrqIsTakenOnlyWithInterruptsEnabled : Prop :=
  ∀ (s : State) (rest : List Call), s.halted = none → s.pcValid = true →
    (flagI s.p = true → step { s with calls := .irq :: rest } =
      .next { s with calls := rest, accesses := [], returned := .cycles 0 }) ∧
    (flagI s.p = false → ∃ t, step { s with calls := .irq :: rest } = .next t ∧ t.returned = .cycles 7 ∧
      (∃ l h, t.pc.toNat = l.toNat + 256 * h.toNat ∧ t.accesses =
        [.write (BitVec.ofNat 16 (slot s.sp)) (BitVec.ofNat 8 (s.pc.toNat / 256)),
         .write (BitVec.ofNat 16 (slot (s.sp - 1))) (BitVec.ofNat 8 s.pc.toNat),
         .write (BitVec.ofNat 16 (slot (s.sp - 2))) ((s.p &&& 0xEF) ||| 0x20), .read 0xFFFE l, .read 0xFFFF h]) ∧
      (s.script = [] → t.pc.toNat = ramWord s.mem 0xFFFE 0xFFFF) ∧
      t.sp = s.sp - 3 ∧ flagI t.p = true ∧ SameFlagsBut [2] s t ∧ t.a = s.a ∧ t.x = s.x ∧ t.y = s.y ∧
      t.halted = none ∧ t.pcValid = true ∧ t.calls = rest ∧
      SameMemoryBut [slot s.sp, slot (s.sp - 1), slot (s.sp - 2)] s t)

/-- Entry then RTI (R223, 90_conflicts.md C3): on a plain-RAM bus, RTI after `nmi()` or a taken `irq()` comes back to the
interrupted PC, after BRK to BRK's address + 2; SP, A, X, Y and every flag but B and U are as before the entry, and B is
0 after NMI and IRQ and 1 after BRK (D6). -/
def Obligations.RtiUndoesHandlerEntry : Prop :=
  ∀ (s : State), PlainRam s →
    (∃ t u, exec .brk s = .next t ∧ exec .rti t = .next u ∧ u.pc = s.pc + 2 ∧ SameRegisters s u ∧
      SameFlagsBut [4, 5] s u ∧ flagB u.p = true) ∧
    (s.halted = none → s.pcValid = true →
      (∃ t u, nmi s = .next t ∧ exec .rti t = .next u ∧ u.pc = s.pc ∧ SameRegisters s u ∧
        SameFlagsBut [4, 5] s u ∧ flagB u.p = false) ∧
      (flagI s.p = false → ∃ t u, irq s = .next t ∧ exec .rti t = .next u ∧ u.pc = s.pc ∧ SameRegisters s u ∧
        SameFlagsBut [4, 5] s u ∧ flagB u.p = false))

/-- A change of I counts at once (R250, D13): after CLI the very next `irq()` is taken, after SEI and after BRK it is
masked, and after any instruction (PLP and RTI among them) it is taken or masked by the I the instruction left. -/
def Obligations.InterruptMaskActsAtOnce : Prop :=
  ∀ (s : State), s.halted = none → s.pcValid = true →
    let taken := fun (t : State) => ∃ u, irq t = .next u ∧ u.returned = .cycles 7 ∧ u.sp = t.sp - 3
    let masked := fun (t : State) => irq t = .next { t with accesses := [], returned := .cycles 0 }
    (∃ t, exec .cli s = .next t ∧ taken t) ∧ (∃ t, exec .sei s = .next t ∧ masked t) ∧
    (∃ t, exec .brk s = .next t ∧ masked t) ∧
    ∀ i : Instr, (descriptor i.opcode).slot ≠ .trap →
      ∃ t, exec i s = .next t ∧ (flagI t.p = false → taken t) ∧ (flagI t.p = true → masked t)

/-- `reset()` (R241, D11): SP - 3 with no access, I set, PC from the RESET vector, 7 cycles; A, X, Y, every other flag
and memory are unchanged. From any state that is not halted, before the first reset too. -/
def Obligations.ResetSetsPcSpAndInterruptDisable : Prop :=
  ∀ (s : State) (rest : List Call), s.halted = none →
    ∃ t, step { s with calls := .reset :: rest } = .next t ∧ t.returned = .cycles 7 ∧ t.pcValid = true ∧
      (∃ l h, t.accesses = [.read 0xFFFC l, .read 0xFFFD h] ∧ t.pc.toNat = l.toNat + 256 * h.toNat) ∧
      (s.script = [] → t.pc.toNat = ramWord s.mem 0xFFFC 0xFFFD) ∧
      t.sp = s.sp - 3 ∧ flagI t.p = true ∧ SameFlagsBut [2] s t ∧ t.a = s.a ∧ t.x = s.x ∧ t.y = s.y ∧
      t.mem = s.mem ∧ t.halted = none ∧ t.calls = rest

/-- The first reset from construction (R39, R244): whatever `init_a`, `init_x`, `init_y` and the memory are, PC is the
vector, SP = 0xFA, P = 0x24, A, X and Y are the parameters; a second reset gives SP = 0xF7. -/
def Obligations.FirstResetFromConstruction : Prop :=
  ∀ (a x y : Byte) (mem : Memory),
    ∃ t u, resetCall (State.construct a x y mem [] []) = .next t ∧ t.pc.toNat = ramWord mem 0xFFFC 0xFFFD ∧
      t.sp = 0xFA ∧ t.p = 0x24 ∧ t.a = a ∧ t.x = x ∧ t.y = y ∧ t.mem = mem ∧ t.pcValid = true ∧ t.halted = none ∧
      t.returned = .cycles 7 ∧ resetCall t = .next u ∧ u.sp = 0xF7 ∧ u.pc = t.pc ∧ u.p = 0x24

/-- Before the first reset (R242, D9): `tick()`, `nmi()` and `irq()` end in the outcome NotReset with no access and no
change, and after any number of them a `reset()` does exactly what it would have done without them. That a refused call is
a next state of its own is log 8, that no call asked for stands for `tick()` (the second clause) is log 5: both are the
model's choice. -/
def Obligations.CallsBeforeResetAreRefused : Prop :=
  ∀ (s : State) (rest : List Call), s.halted = none → s.pcValid = false →
    (∀ c ∈ [Call.tick, Call.nmi, Call.irq], step { s with calls := c :: rest } =
      .next { s with calls := rest, accesses := [], returned := .notReset }) ∧
    step { s with calls := [] } = .next { s with calls := [], accesses := [], returned := .notReset } ∧
    (∀ refused : List Call, (∀ c ∈ refused, c ∈ [Call.tick, Call.nmi, Call.irq]) →
      Host.Core.run core (refused.length + 1) { s with calls := refused ++ .reset :: rest } =
        step { s with calls := .reset :: rest }) ∧
    ∃ t, step { s with calls := .reset :: rest } = .next t ∧ t.pcValid = true ∧ t.halted = none

/-- `get_registers()` (R37): the snapshot of the six registers with P's bit 5 = 1, no PC before the first reset (R242),
and no change. -/
def Obligations.GetRegistersIsReadOnly : Prop :=
  ∀ (s : State) (rest : List Call),
    let snapshot : Registers := ⟨if s.pcValid then some s.pc else none, s.sp, s.a, s.x, s.y, s.p ||| 0x20⟩
    step { s with calls := .getRegisters :: rest } =
      .next { s with calls := rest, accesses := [], returned := .registers snapshot }

/-! ### Memory, bus, addressing, decoding -/

/-- On a plain-RAM bus a read returns the last byte written there, and a write changes no other byte (20_memory.md R40
with the plain RAM of 95_test_vectors.md; log 1). The stack: a push then a pull gives the byte back, in page 1, with SP
restored (R26). -/
def Obligations.PlainRamReadsWhatWasWritten : Prop :=
  ∀ (s : State) (a b : Addr) (v : Byte), PlainRam s →
    (busRead a (busWrite a v s)).1 = v ∧ (b ≠ a → (busRead b (busWrite a v s)).1 = (busRead b s).1) ∧
    (pull (push v s)).1 = v ∧ (pull (push v s)).2.sp = s.sp ∧
    (stackAddr s.sp).toNat = 256 + s.sp.toNat

/-- The modes without an index to a 16-bit base (R84, R85, R87, R91): zero-page sums and pointers wrap within page 0;
none reports a crossing. The pointer's bytes are read low then high. That the operand bytes are no reads of the resolver
is log 10, the model's choice: the fetch read them. -/
def Obligations.ZeroPageModesStayInPageZero : Prop :=
  ∀ (s : State) (z : Byte) (w : Addr),
    resolve (.zeroPage z) s = { ea := BitVec.ofNat 16 z.toNat, crossed := false, state := s } ∧
    resolve (.zeroPageX z) s =
      { ea := BitVec.ofNat 16 ((z.toNat + s.x.toNat) % 256), crossed := false, state := s } ∧
    resolve (.zeroPageY z) s =
      { ea := BitVec.ofNat 16 ((z.toNat + s.y.toNat) % 256), crossed := false, state := s } ∧
    resolve (.absolute w) s = { ea := w, crossed := false, state := s } ∧
    (let p := (z.toNat + s.x.toNat) % 256
     let q := (p + 1) % 256
     let r := resolve (.indirectX z) s
     r.crossed = false ∧ (s.script = [] → r.ea.toNat = ramWord s.mem p q) ∧
       ∃ l h, r.state.accesses = s.accesses ++ [.read (BitVec.ofNat 16 p) l, .read (BitVec.ofNat 16 q) h] ∧
         r.ea.toNat = l.toNat + 256 * h.toNat)

/-- The modes that index a 16-bit base, and Relative (R86, R88, R89, R92; the wrap modulo 65536 is D10, the crossing of
IndirectY is the spec's "[derived: from rule R88]"): the sum modulo 65536, and a crossing exactly when the page number
changes. That the operand bytes are no reads of the resolver is log 10, the model's choice: the fetch read them. -/
def Obligations.IndexedModesReportPageCrossing : Prop :=
  ∀ (s : State) (z off : Byte) (w : Addr),
    let sumOk := fun (base : Nat) (index : Byte) (ea : Addr) (crossed : Bool) =>
      ea.toNat = (base + index.toNat) % 65536 ∧ (crossed = true ↔ base / 256 ≠ ea.toNat / 256)
    sumOk w.toNat s.x (resolve (.absoluteX w) s).ea (resolve (.absoluteX w) s).crossed ∧
    sumOk w.toNat s.y (resolve (.absoluteY w) s).ea (resolve (.absoluteY w) s).crossed ∧
    (resolve (.absoluteX w) s).state = s ∧ (resolve (.absoluteY w) s).state = s ∧
    (s.script = [] → sumOk (ramWord s.mem z.toNat ((z.toNat + 1) % 256)) s.y
      (resolve (.indirectY z) s).ea (resolve (.indirectY z) s).crossed) ∧
    (∃ l h, (resolve (.indirectY z) s).state.accesses = s.accesses ++
      [.read (BitVec.ofNat 16 z.toNat) l, .read (BitVec.ofNat 16 ((z.toNat + 1) % 256)) h]) ∧
    ((resolveRelative off s).1.toNat : Int) = ((s.pc.toNat : Int) + 2 + off.toInt) % 65536 ∧
    ((resolveRelative off s).2 = true ↔ (s.pc.toNat + 2) % 65536 / 256 ≠ (resolveRelative off s).1.toNat / 256)

/-- A step runs the decoded instruction (R61, R44): when the core is not halted and PC has a value, a `tick()`, asked for
by the driver or because nothing is asked for, reads the opcode and then exactly its operand bytes, and is `exec` of the
instruction these bytes decode to, in the state after these reads, PC still at the opcode; on a plain-RAM bus the bytes
are memory's. That nothing asked for stands for `tick()` is log 5, that the operand bytes are read before `exec` is log 10:
both are the model's choice. -/
def Obligations.StepRunsTheDecodedInstruction : Prop :=
  ∀ (s : State) (asked later : List Call) (i : Instr) (rest : List Byte), s.halted = none → s.pcValid = true →
    (asked = .tick :: later ∨ (asked = [] ∧ later = [])) →
    (let op := busRead s.pc { s with calls := later, accesses := [] }
     let b1 := busRead (s.pc + 1) op.2
     let b2 := busRead (s.pc + 2) b1.2
     let n := (descriptor op.1).form.operandBytes
     decode [op.1, b1.1, b2.1] = .ok (i, rest) →
       step { s with calls := asked } = exec i (if n = 0 then op.2 else if n = 1 then b1.2 else b2.2)) ∧
    (let place := fun (k : Nat) => s.pc + BitVec.ofNat 16 k
     let byte := fun k => Memory.read s.mem (place k).toNat
     let n := (descriptor (byte 0)).form.operandBytes
     s.script = [] → decode [byte 0, byte 1, byte 2] = .ok (i, rest) →
       step { s with calls := asked } =
         exec i { s with
           calls := later, accesses := (List.range (n + 1)).map (fun k => BusAccess.read (place k) (byte k)) })

/-- Decoding what the encoder writes gives the instruction back, operands included, and leaves the bytes after it (R60,
R63, R64). -/
def Obligations.DecodeUndoesEncode : Prop :=
  ∀ (i : Instr) (rest : List Byte), i.wellFormed = true → decode (encode i ++ rest) = .ok (i, rest)

/-- Every byte is the opcode of exactly one row (R65, R66): the instruction decoded from it has that opcode, its operand
bytes are the bytes after it, every row is well formed, and 151, 80 and 25 rows are legal, supported and traps. -/
def Obligations.EveryByteIsOneOpcode : Prop :=
  (∀ op b1 b2 : Byte, (decodeBytes op b1 b2).opcode = op ∧
    ((descriptor op).form.operandBytes = 1 → encode (decodeBytes op b1 b2) = [op, b1]) ∧
    ((descriptor op).form.operandBytes = 2 → encode (decodeBytes op b1 b2) = [op, b1, b2]) ∧
    (descriptor op).wellFormed = true) ∧
  (let count := fun c => ((List.range 256).filter fun n => (descriptor (BitVec.ofNat 8 n)).slot == c).length
   count .legal = 151 ∧ count .supported = 80 ∧ count .trap = 25)

/-- Sample words of every family, written out from the spec's encodings (R64, R67). -/
def Obligations.SampleWordsDecode : Prop :=
  [decodeTableWord 24 0x30FFBD, decodeTableWord 16 0x1085, decodeTableWord 16 0x5069, decodeTableWord 8 0x0A,
    decodeTableWord 16 0xFBD0, decodeTableWord 24 0x30FF6C, decodeTableWord 24 0x123420, decodeTableWord 16 0x00,
    decodeTableWord 8 0x40, decodeTableWord 16 0x10C7, decodeTableWord 8 0x02] =
  [some (.ldaAbsX 0x30FF), some (.staZp 0x10), some (.adcImm 0x50), some .aslA, some (.bne 0xFB), some (.jmpInd 0x30FF),
    some (.jsr 0x1234), some .brk, some .rti, some (.dcpZp 0x10), some .jam02]

/-! ### Whole-machine rules -/

/-- No instruction raises an exception once decoded but for the trap slots (R211), and there is no privilege, alignment
or access fault: every instruction answers a next state in every state, and only a trap slot touches `halted`. The model's choice are that
a trap's Fatal is a next state (log 7) and that `exec` itself, in a halted or not yet reset core too, does not look at
`halted` and `pcValid` (log 11). -/
def Obligations.EveryInstructionAnswersANextState : Prop :=
  ∀ (i : Instr) (s : State), ∃ t, exec i s = .next t ∧ t.pcValid = s.pcValid ∧ t.calls = s.calls ∧
    ((descriptor i.opcode).slot ≠ .trap → t.halted = s.halted)

/-- A, X, Y and SP are written only by the instructions that R21, R22, R23 and R25 list. -/
def Obligations.RegistersHaveOnlyTheirWriters : Prop :=
  ∀ (i : Instr) (s t : State), exec i s = .next t →
    (mnemonic i ∉ ["LDA", "PLA", "TXA", "TYA", "AND", "ORA", "EOR", "ADC", "SBC", "LAX", "SLO", "RLA", "SRE", "RRA", "ISB"] →
      (descriptor i.opcode).mode ≠ some .accumulator → t.a = s.a) ∧
    (mnemonic i ∉ ["LDX", "TAX", "TSX", "INX", "DEX", "LAX"] → t.x = s.x) ∧
    (mnemonic i ∉ ["LDY", "TAY", "INY", "DEY"] → t.y = s.y) ∧
    (mnemonic i ∉ ["TXS", "PHA", "PHP", "PLA", "PLP", "JSR", "RTS", "BRK", "RTI"] → t.sp = s.sp)

/-- Each flag is written only by the instructions that R29 to R33 list. -/
def Obligations.FlagsHaveOnlyTheirWriters : Prop :=
  ∀ (i : Instr) (s t : State), exec i s = .next t →
    (mnemonic i ∉ ["ADC", "SBC", "CMP", "CPX", "CPY", "ASL", "LSR", "ROL", "ROR", "CLC", "SEC", "PLP", "RTI", "SLO", "RLA",
      "SRE", "RRA", "DCP", "ISB"] → flagC t.p = flagC s.p) ∧
    (mnemonic i ∉ ["ADC", "SBC", "BIT", "CLV", "PLP", "RTI", "RRA", "ISB"] → flagV t.p = flagV s.p) ∧
    (mnemonic i ∉ ["SEI", "CLI", "PLP", "RTI", "BRK"] → flagI t.p = flagI s.p) ∧
    (mnemonic i ∉ ["SED", "CLD", "PLP", "RTI"] → flagD t.p = flagD s.p) ∧
    (mnemonic i ≠ "RTI" → flagB t.p = flagB s.p)

/-- The accesses an instruction makes (R44, R45, R46, R195): it only adds to the record, and it makes as many writes as
its class, none for every class not named. -/
def Obligations.WritesAreThoseOfTheClass : Prop :=
  ∀ (i : Instr) (s t : State), exec i s = .next t →
    ∃ new, t.accesses = s.accesses ++ new ∧ new.countP isWrite = writesOf i

/-- A byte of memory changes only where the instruction's recorded accesses wrote it (R40, R45). -/
def Obligations.OnlyRecordedWritesChangeMemory : Prop :=
  ∀ (i : Instr) (s t : State) (b : Nat), exec i s = .next t →
    (∀ a v, BusAccess.write a v ∈ t.accesses → a.toNat ≠ b) → Memory.read t.mem b = Memory.read s.mem b

/-- The returned count (R98, the spec's "[derived: from rule R95, rule R96 and opcode_table.json]"): 2 to 8 for every
instruction but the traps, and a base count plus at most two. -/
def Obligations.ReturnedCountIsTwoToEight : Prop :=
  ∀ (i : Instr) (s t : State), exec i s = .next t → (descriptor i.opcode).slot ≠ .trap →
    ∃ n base, t.returned = .cycles n ∧ (descriptor i.opcode).cycles = some base ∧ base ≤ n ∧ n ≤ base + 2 ∧ 2 ≤ n ∧ n ≤ 8

/-- The invariant holds after reset. What memory and A, X, Y hold there is the model's choice (log 2, log 3). -/
def Obligations.ResetMeetsTheInvariant : Prop := Inv State.reset

/-- Every step keeps the invariant: from any state that meets it, whatever the driver calls and the bus answers. -/
def Obligations.EveryStepKeepsTheInvariant : Prop := ∀ s t : State, Inv s → step s = .next t → Inv t

/-- Halted is absorbing over whole runs (R219): once a Fatal stands, every sequence of calls runs to its end and changes
no register, no byte of memory and not the record. -/
def Obligations.FatalEndsEveryRun : Prop :=
  ∀ (n : Nat) (s : State), s.halted ≠ none →
    ∃ t : State, Host.Core.run core n s = .next t ∧ t.halted = s.halted ∧ t.pc = s.pc ∧ t.p = s.p ∧
      SameRegisters s t ∧ t.mem = s.mem ∧ t.pcValid = s.pcValid

/-- The controller's states (R219) and every driver (R217): each call answers a next state, a first `reset()` leads from
NotReset to Running and no other call leaves NotReset, a running core is halted by a `tick()` that fetches a trap opcode
and by nothing else, a halted core keeps its record, and so every sequence of calls is a run. That Fatal and NotReset
answer a next state is log 7 and log 8, that a run whose list is used up goes on with ticks is log 5: the model's
choice. -/
def Obligations.EveryCallMovesTheControllerAlongItsDiagram : Prop :=
  (∀ (s : State) (c : Call) (rest : List Call), ∃ t, step { s with calls := c :: rest } = .next t ∧ t.calls = rest ∧
    (Safety.NotReset s → if c = .reset then Safety.Running t else Safety.NotReset t) ∧
    (Safety.Running s → t.pcValid = true ∧
      (t.halted ≠ none ↔ c = .tick ∧ (descriptor (busRead s.pc s).1).slot = .trap)) ∧
    (s.halted ≠ none → t.halted = s.halted)) ∧
  ∀ (n : Nat) (s : State), ∃ t : State, Host.Core.run core n s = .next t
end

