-- ==== Sys2Proof/Laws/Coding.lean ====
section
/-! SUPPORT. Laws of byte order and of the decoder's forms (spec/00_scope.md R10, 30_encoding.md R60). -/

namespace Sys2Proof.Laws

open Sys2Proof

/-- The value of a word. -/
theorem word_toNat (h l : Byte) : (word h l).toNat = l.toNat + 256 * h.toNat := by
  have hl := l.isLt
  simp only [word, BitVec.toNat_append, Nat.shiftLeft_eq]
  rw [Nat.mul_comm, ← Nat.two_pow_add_eq_or_of_lt hl]
  omega

theorem lo_toNat (w : Addr) : (lo w).toNat = w.toNat % 256 := by simp [lo, BitVec.extractLsb'_toNat]

theorem hi_toNat (w : Addr) : (hi w).toNat = w.toNat / 256 := by
  have := w.isLt
  simp [hi, BitVec.extractLsb'_toNat, Nat.shiftRight_eq_div_pow]
  omega

/-- The low byte, as the byte of a number. -/
theorem lo_eq_ofNat (w : Addr) : lo w = BitVec.ofNat 8 w.toNat :=
  BitVec.eq_of_toNat_eq (by rw [lo_toNat, BitVec.toNat_ofNat])

/-- The high byte, as the byte of a number. -/
theorem hi_eq_ofNat (w : Addr) : hi w = BitVec.ofNat 8 (w.toNat / 256) :=
  BitVec.eq_of_toNat_eq (by rw [hi_toNat, BitVec.toNat_ofNat, Nat.mod_eq_of_lt (by have := w.isLt; omega)])

/-- A word is its high and its low byte. -/
@[simp] theorem word_hi_lo (w : Addr) : word (hi w) (lo w) = w :=
  BitVec.eq_of_toNat_eq (by rw [word_toNat, hi_toNat, lo_toNat]; omega)

@[simp] theorem lo_word (h l : Byte) : lo (word h l) = l :=
  BitVec.eq_of_toNat_eq (by have := l.isLt; rw [lo_toNat, word_toNat]; omega)

@[simp] theorem hi_word (h l : Byte) : hi (word h l) = h :=
  BitVec.eq_of_toNat_eq (by have := l.isLt; rw [hi_toNat, word_toNat]; omega)

/-- Decoding an opcode of the form with a word and the word's bytes, low byte first. -/
theorem decode_withWord (op : Byte) (f : Addr → Instr) (w : Addr) (h : (descriptor op).form = .withWord f)
    (rest : List Byte) : decode (op :: lo w :: hi w :: rest) = .ok (f w, rest) := by
  simp [decode, h]

/-- What the table says of an instruction whose opcode is known. -/
theorem tableRow_of {i : Instr} (op : Byte) (h : i.opcode = op) (hl : (encode i).length = (descriptor op).size)
    (hw : (descriptor op).wellFormed = true) :
    (encode i).length = (descriptor i.opcode).size ∧ (descriptor i.opcode).wellFormed = true := by
  rw [h]; exact ⟨hl, hw⟩

end Sys2Proof.Laws
end

