-- ==== Sys2Proof/Laws/Exec.lean ====
section
/-! SUPPORT. Everything the executor can do, said once: every instruction's meaning is one of the classes of
Machine/Classes.lean, with its opcode and an effect of the tables below, or one of the transfers of control. -/

namespace Sys2Proof.Machine

open Sys2Proof


/-- The effects of the implied instructions, by mnemonic. -/
def impliedEffects : List (String × (State → State)) :=
  [("TAX", tax), ("TAY", tay), ("TXA", txa), ("TYA", tya), ("TSX", tsx), ("TXS", txs), ("INX", inx),
   ("INY", iny), ("DEX", dex), ("DEY", dey), ("CLC", clearCarry), ("SEC", setCarry),
   ("CLI", clearInterruptDisable), ("SEI", setInterruptDisable), ("CLD", clearDecimal), ("SED", setDecimal),
   ("CLV", clearOverflow), ("PHA", pushA), ("PHP", pushP), ("PLA", pullA), ("PLP", pullP), ("NOP", noEffect)]

/-- The effects of the instructions that read a byte, by mnemonic. -/
def readEffects : List (String × (Byte → State → State)) :=
  [("LDA", loadA), ("LDX", loadX), ("LDY", loadY), ("ADC", adcA), ("SBC", sbcA), ("AND", andA), ("ORA", oraA),
   ("EOR", eorA), ("CMP", cmpA), ("CPX", cpxX), ("CPY", cpyY), ("BIT", bitA), ("LAX", loadAX),
   ("NOP", discardByte)]

/-- The bytes the store instructions store, by mnemonic. -/
def storeValues : List (String × (State → Byte)) :=
  [("STA", State.a), ("STX", State.x), ("STY", State.y), ("SAX", aAndX)]

/-- The steps of the read-modify-write instructions, by mnemonic. -/
def modifySteps : List (String × (Byte → State → Byte × State)) :=
  [("ASL", aslStep), ("LSR", lsrStep), ("ROL", rolStep), ("ROR", rorStep), ("INC", incStep), ("DEC", decStep)]

/-- The steps and the effects of the read-modify-write composites, by mnemonic. -/
def compositeEffects : List (String × ((Byte → State → Byte × State) × (Byte → State → State))) :=
  [("SLO", (aslStep, oraA)), ("RLA", (rolStep, andA)), ("SRE", (lsrStep, eorA)), ("RRA", (rorStep, adcA)),
   ("DCP", (decStep, cmpA)), ("ISB", (incStep, sbcA))]

/-- The conditions of the branches, by mnemonic. -/
def branchConditions : List (String × (State → Bool)) :=
  [("BCC", fun s => !flagC s.p), ("BCS", fun s => flagC s.p), ("BEQ", fun s => flagZ s.p),
   ("BNE", fun s => !flagZ s.p), ("BMI", fun s => flagN s.p), ("BPL", fun s => !flagN s.p),
   ("BVC", fun s => !flagV s.p), ("BVS", fun s => flagV s.p)]

/-- What the meaning of an instruction can be. -/
inductive Meaning (i : Instr) (op : Byte) (m : String) : Prop where
  | implied (f) (h : (m, f) ∈ impliedEffects) (e : ∀ s, exec i s = impliedClass op f s)
  | accumulator (f) (h : (m, f) ∈ modifySteps) (hm : (descriptor op).mode = some .accumulator)
      (e : ∀ s, exec i s = accumulatorClass op f s)
  | immediate (f v) (h : (m, f) ∈ readEffects) (e : ∀ s, exec i s = immediateClass op v f s)
  | read (f r) (h : (m, f) ∈ readEffects) (e : ∀ s, exec i s = readClass op r f s)
  | store (f r) (h : (m, f) ∈ storeValues) (e : ∀ s, exec i s = storeClass op r f s)
  | modify (f r) (h : (m, f) ∈ modifySteps) (hm : (descriptor op).mode ≠ some .accumulator)
      (e : ∀ s, exec i s = modifyClass op r f s)
  | composite (f g r) (h : (m, f, g) ∈ compositeEffects) (e : ∀ s, exec i s = compositeClass op r f g s)
  | branch (f off) (h : (m, f) ∈ branchConditions) (e : ∀ s, exec i s = branchClass op (f s) off s)
  | jumpAbsolute (w) (h : m = "JMP") (e : ∀ s, exec i s = jumpAbsolute op w s)
  | jumpIndirect (w) (h : m = "JMP") (e : ∀ s, exec i s = jumpIndirect op w s)
  | jsr (w) (h : m = "JSR") (e : ∀ s, exec i s = subroutineCall op w s)
  | rts (h : m = "RTS") (e : ∀ s, exec i s = subroutineReturn op s)
  | brk (h : m = "BRK") (e : ∀ s, exec i s = softwareInterrupt op s)
  | rti (h : m = "RTI") (e : ∀ s, exec i s = interruptReturn op s)
  | trap (h : (descriptor op).slot = .trap) (e : ∀ s, exec i s = trapClass op s)

/-- The meaning of an instruction, with its opcode and its mnemonic in the table. -/
def Meant (i : Instr) : Prop := Meaning i i.opcode (descriptor i.opcode).mnemonic ∧
  ((descriptor i.opcode).slot = .trap ∨ ∃ n, (descriptor i.opcode).cycles = some n)

theorem meant_of {i : Instr} (op : Byte) (m : String) (h : i.opcode = op) (hm : (descriptor op).mnemonic = m)
    (hc : (descriptor op).slot = .trap ∨ ∃ n, (descriptor op).cycles = some n) (e : Meaning i op m) : Meant i := by
  subst h hm
  exact ⟨e, hc⟩

theorem listed {α : Type} (k : Nat) {l : List α} {x : α} (h : l[k]? = some x) : x ∈ l :=
  List.mem_of_getElem? h

/-- Every instruction has a meaning of one of these shapes. -/
theorem exec_meant (i : Instr) : Meant i :=
  match i with
  | .brk => meant_of (i := .brk) 0x00 "BRK" rfl rfl (.inr ⟨_, rfl⟩)
      (.brk rfl fun _ => rfl)
  | .oraIndX z => meant_of (i := .oraIndX z) 0x01 "ORA" rfl rfl (.inr ⟨_, rfl⟩)
      (.read _ (.indirectX z) (listed 6 rfl) fun _ => rfl)
  | .jam02 => meant_of (i := .jam02) 0x02 "JAM" rfl rfl (.inl rfl)
      (.trap rfl fun _ => rfl)
  | .sloIndX z => meant_of (i := .sloIndX z) 0x03 "SLO" rfl rfl (.inr ⟨_, rfl⟩)
      (.composite _ _ (.indirectX z) (listed 0 rfl) fun _ => rfl)
  | .nopZp04 z => meant_of (i := .nopZp04 z) 0x04 "NOP" rfl rfl (.inr ⟨_, rfl⟩)
      (.read _ (.zeroPage z) (listed 13 rfl) fun _ => rfl)
  | .oraZp z => meant_of (i := .oraZp z) 0x05 "ORA" rfl rfl (.inr ⟨_, rfl⟩)
      (.read _ (.zeroPage z) (listed 6 rfl) fun _ => rfl)
  | .aslZp z => meant_of (i := .aslZp z) 0x06 "ASL" rfl rfl (.inr ⟨_, rfl⟩)
      (.modify _ (.zeroPage z) (listed 0 rfl) (by decide) fun _ => rfl)
  | .sloZp z => meant_of (i := .sloZp z) 0x07 "SLO" rfl rfl (.inr ⟨_, rfl⟩)
      (.composite _ _ (.zeroPage z) (listed 0 rfl) fun _ => rfl)
  | .php => meant_of (i := .php) 0x08 "PHP" rfl rfl (.inr ⟨_, rfl⟩)
      (.implied _ (listed 18 rfl) fun _ => rfl)
  | .oraImm v => meant_of (i := .oraImm v) 0x09 "ORA" rfl rfl (.inr ⟨_, rfl⟩)
      (.immediate _ v (listed 6 rfl) fun _ => rfl)
  | .aslA => meant_of (i := .aslA) 0x0A "ASL" rfl rfl (.inr ⟨_, rfl⟩)
      (.accumulator _ (listed 0 rfl) rfl fun _ => rfl)
  | .anc0B => meant_of (i := .anc0B) 0x0B "ANC" rfl rfl (.inl rfl)
      (.trap rfl fun _ => rfl)
  | .nopAbs0C w => meant_of (i := .nopAbs0C w) 0x0C "NOP" rfl rfl (.inr ⟨_, rfl⟩)
      (.read _ (.absolute w) (listed 13 rfl) fun _ => rfl)
  | .oraAbs w => meant_of (i := .oraAbs w) 0x0D "ORA" rfl rfl (.inr ⟨_, rfl⟩)
      (.read _ (.absolute w) (listed 6 rfl) fun _ => rfl)
  | .aslAbs w => meant_of (i := .aslAbs w) 0x0E "ASL" rfl rfl (.inr ⟨_, rfl⟩)
      (.modify _ (.absolute w) (listed 0 rfl) (by decide) fun _ => rfl)
  | .sloAbs w => meant_of (i := .sloAbs w) 0x0F "SLO" rfl rfl (.inr ⟨_, rfl⟩)
      (.composite _ _ (.absolute w) (listed 0 rfl) fun _ => rfl)
  | .bpl off => meant_of (i := .bpl off) 0x10 "BPL" rfl rfl (.inr ⟨_, rfl⟩)
      (.branch _ off (listed 5 rfl) fun _ => rfl)
  | .oraIndY z => meant_of (i := .oraIndY z) 0x11 "ORA" rfl rfl (.inr ⟨_, rfl⟩)
      (.read _ (.indirectY z) (listed 6 rfl) fun _ => rfl)
  | .jam12 => meant_of (i := .jam12) 0x12 "JAM" rfl rfl (.inl rfl)
      (.trap rfl fun _ => rfl)
  | .sloIndY z => meant_of (i := .sloIndY z) 0x13 "SLO" rfl rfl (.inr ⟨_, rfl⟩)
      (.composite _ _ (.indirectY z) (listed 0 rfl) fun _ => rfl)
  | .nopZpX14 z => meant_of (i := .nopZpX14 z) 0x14 "NOP" rfl rfl (.inr ⟨_, rfl⟩)
      (.read _ (.zeroPageX z) (listed 13 rfl) fun _ => rfl)
  | .oraZpX z => meant_of (i := .oraZpX z) 0x15 "ORA" rfl rfl (.inr ⟨_, rfl⟩)
      (.read _ (.zeroPageX z) (listed 6 rfl) fun _ => rfl)
  | .aslZpX z => meant_of (i := .aslZpX z) 0x16 "ASL" rfl rfl (.inr ⟨_, rfl⟩)
      (.modify _ (.zeroPageX z) (listed 0 rfl) (by decide) fun _ => rfl)
  | .sloZpX z => meant_of (i := .sloZpX z) 0x17 "SLO" rfl rfl (.inr ⟨_, rfl⟩)
      (.composite _ _ (.zeroPageX z) (listed 0 rfl) fun _ => rfl)
  | .clc => meant_of (i := .clc) 0x18 "CLC" rfl rfl (.inr ⟨_, rfl⟩)
      (.implied _ (listed 10 rfl) fun _ => rfl)
  | .oraAbsY w => meant_of (i := .oraAbsY w) 0x19 "ORA" rfl rfl (.inr ⟨_, rfl⟩)
      (.read _ (.absoluteY w) (listed 6 rfl) fun _ => rfl)
  | .nopImp1A => meant_of (i := .nopImp1A) 0x1A "NOP" rfl rfl (.inr ⟨_, rfl⟩)
      (.implied _ (listed 21 rfl) fun _ => rfl)
  | .sloAbsY w => meant_of (i := .sloAbsY w) 0x1B "SLO" rfl rfl (.inr ⟨_, rfl⟩)
      (.composite _ _ (.absoluteY w) (listed 0 rfl) fun _ => rfl)
  | .nopAbsX1C w => meant_of (i := .nopAbsX1C w) 0x1C "NOP" rfl rfl (.inr ⟨_, rfl⟩)
      (.read _ (.absoluteX w) (listed 13 rfl) fun _ => rfl)
  | .oraAbsX w => meant_of (i := .oraAbsX w) 0x1D "ORA" rfl rfl (.inr ⟨_, rfl⟩)
      (.read _ (.absoluteX w) (listed 6 rfl) fun _ => rfl)
  | .aslAbsX w => meant_of (i := .aslAbsX w) 0x1E "ASL" rfl rfl (.inr ⟨_, rfl⟩)
      (.modify _ (.absoluteX w) (listed 0 rfl) (by decide) fun _ => rfl)
  | .sloAbsX w => meant_of (i := .sloAbsX w) 0x1F "SLO" rfl rfl (.inr ⟨_, rfl⟩)
      (.composite _ _ (.absoluteX w) (listed 0 rfl) fun _ => rfl)
  | .jsr w => meant_of (i := .jsr w) 0x20 "JSR" rfl rfl (.inr ⟨_, rfl⟩)
      (.jsr w rfl fun _ => rfl)
  | .andIndX z => meant_of (i := .andIndX z) 0x21 "AND" rfl rfl (.inr ⟨_, rfl⟩)
      (.read _ (.indirectX z) (listed 5 rfl) fun _ => rfl)
  | .jam22 => meant_of (i := .jam22) 0x22 "JAM" rfl rfl (.inl rfl)
      (.trap rfl fun _ => rfl)
  | .rlaIndX z => meant_of (i := .rlaIndX z) 0x23 "RLA" rfl rfl (.inr ⟨_, rfl⟩)
      (.composite _ _ (.indirectX z) (listed 1 rfl) fun _ => rfl)
  | .bitZp z => meant_of (i := .bitZp z) 0x24 "BIT" rfl rfl (.inr ⟨_, rfl⟩)
      (.read _ (.zeroPage z) (listed 11 rfl) fun _ => rfl)
  | .andZp z => meant_of (i := .andZp z) 0x25 "AND" rfl rfl (.inr ⟨_, rfl⟩)
      (.read _ (.zeroPage z) (listed 5 rfl) fun _ => rfl)
  | .rolZp z => meant_of (i := .rolZp z) 0x26 "ROL" rfl rfl (.inr ⟨_, rfl⟩)
      (.modify _ (.zeroPage z) (listed 2 rfl) (by decide) fun _ => rfl)
  | .rlaZp z => meant_of (i := .rlaZp z) 0x27 "RLA" rfl rfl (.inr ⟨_, rfl⟩)
      (.composite _ _ (.zeroPage z) (listed 1 rfl) fun _ => rfl)
  | .plp => meant_of (i := .plp) 0x28 "PLP" rfl rfl (.inr ⟨_, rfl⟩)
      (.implied _ (listed 20 rfl) fun _ => rfl)
  | .andImm v => meant_of (i := .andImm v) 0x29 "AND" rfl rfl (.inr ⟨_, rfl⟩)
      (.immediate _ v (listed 5 rfl) fun _ => rfl)
  | .rolA => meant_of (i := .rolA) 0x2A "ROL" rfl rfl (.inr ⟨_, rfl⟩)
      (.accumulator _ (listed 2 rfl) rfl fun _ => rfl)
  | .anc2B => meant_of (i := .anc2B) 0x2B "ANC" rfl rfl (.inl rfl)
      (.trap rfl fun _ => rfl)
  | .bitAbs w => meant_of (i := .bitAbs w) 0x2C "BIT" rfl rfl (.inr ⟨_, rfl⟩)
      (.read _ (.absolute w) (listed 11 rfl) fun _ => rfl)
  | .andAbs w => meant_of (i := .andAbs w) 0x2D "AND" rfl rfl (.inr ⟨_, rfl⟩)
      (.read _ (.absolute w) (listed 5 rfl) fun _ => rfl)
  | .rolAbs w => meant_of (i := .rolAbs w) 0x2E "ROL" rfl rfl (.inr ⟨_, rfl⟩)
      (.modify _ (.absolute w) (listed 2 rfl) (by decide) fun _ => rfl)
  | .rlaAbs w => meant_of (i := .rlaAbs w) 0x2F "RLA" rfl rfl (.inr ⟨_, rfl⟩)
      (.composite _ _ (.absolute w) (listed 1 rfl) fun _ => rfl)
  | .bmi off => meant_of (i := .bmi off) 0x30 "BMI" rfl rfl (.inr ⟨_, rfl⟩)
      (.branch _ off (listed 4 rfl) fun _ => rfl)
  | .andIndY z => meant_of (i := .andIndY z) 0x31 "AND" rfl rfl (.inr ⟨_, rfl⟩)
      (.read _ (.indirectY z) (listed 5 rfl) fun _ => rfl)
  | .jam32 => meant_of (i := .jam32) 0x32 "JAM" rfl rfl (.inl rfl)
      (.trap rfl fun _ => rfl)
  | .rlaIndY z => meant_of (i := .rlaIndY z) 0x33 "RLA" rfl rfl (.inr ⟨_, rfl⟩)
      (.composite _ _ (.indirectY z) (listed 1 rfl) fun _ => rfl)
  | .nopZpX34 z => meant_of (i := .nopZpX34 z) 0x34 "NOP" rfl rfl (.inr ⟨_, rfl⟩)
      (.read _ (.zeroPageX z) (listed 13 rfl) fun _ => rfl)
  | .andZpX z => meant_of (i := .andZpX z) 0x35 "AND" rfl rfl (.inr ⟨_, rfl⟩)
      (.read _ (.zeroPageX z) (listed 5 rfl) fun _ => rfl)
  | .rolZpX z => meant_of (i := .rolZpX z) 0x36 "ROL" rfl rfl (.inr ⟨_, rfl⟩)
      (.modify _ (.zeroPageX z) (listed 2 rfl) (by decide) fun _ => rfl)
  | .rlaZpX z => meant_of (i := .rlaZpX z) 0x37 "RLA" rfl rfl (.inr ⟨_, rfl⟩)
      (.composite _ _ (.zeroPageX z) (listed 1 rfl) fun _ => rfl)
  | .sec => meant_of (i := .sec) 0x38 "SEC" rfl rfl (.inr ⟨_, rfl⟩)
      (.implied _ (listed 11 rfl) fun _ => rfl)
  | .andAbsY w => meant_of (i := .andAbsY w) 0x39 "AND" rfl rfl (.inr ⟨_, rfl⟩)
      (.read _ (.absoluteY w) (listed 5 rfl) fun _ => rfl)
  | .nopImp3A => meant_of (i := .nopImp3A) 0x3A "NOP" rfl rfl (.inr ⟨_, rfl⟩)
      (.implied _ (listed 21 rfl) fun _ => rfl)
  | .rlaAbsY w => meant_of (i := .rlaAbsY w) 0x3B "RLA" rfl rfl (.inr ⟨_, rfl⟩)
      (.composite _ _ (.absoluteY w) (listed 1 rfl) fun _ => rfl)
  | .nopAbsX3C w => meant_of (i := .nopAbsX3C w) 0x3C "NOP" rfl rfl (.inr ⟨_, rfl⟩)
      (.read _ (.absoluteX w) (listed 13 rfl) fun _ => rfl)
  | .andAbsX w => meant_of (i := .andAbsX w) 0x3D "AND" rfl rfl (.inr ⟨_, rfl⟩)
      (.read _ (.absoluteX w) (listed 5 rfl) fun _ => rfl)
  | .rolAbsX w => meant_of (i := .rolAbsX w) 0x3E "ROL" rfl rfl (.inr ⟨_, rfl⟩)
      (.modify _ (.absoluteX w) (listed 2 rfl) (by decide) fun _ => rfl)
  | .rlaAbsX w => meant_of (i := .rlaAbsX w) 0x3F "RLA" rfl rfl (.inr ⟨_, rfl⟩)
      (.composite _ _ (.absoluteX w) (listed 1 rfl) fun _ => rfl)
  | .rti => meant_of (i := .rti) 0x40 "RTI" rfl rfl (.inr ⟨_, rfl⟩)
      (.rti rfl fun _ => rfl)
  | .eorIndX z => meant_of (i := .eorIndX z) 0x41 "EOR" rfl rfl (.inr ⟨_, rfl⟩)
      (.read _ (.indirectX z) (listed 7 rfl) fun _ => rfl)
  | .jam42 => meant_of (i := .jam42) 0x42 "JAM" rfl rfl (.inl rfl)
      (.trap rfl fun _ => rfl)
  | .sreIndX z => meant_of (i := .sreIndX z) 0x43 "SRE" rfl rfl (.inr ⟨_, rfl⟩)
      (.composite _ _ (.indirectX z) (listed 2 rfl) fun _ => rfl)
  | .nopZp44 z => meant_of (i := .nopZp44 z) 0x44 "NOP" rfl rfl (.inr ⟨_, rfl⟩)
      (.read _ (.zeroPage z) (listed 13 rfl) fun _ => rfl)
  | .eorZp z => meant_of (i := .eorZp z) 0x45 "EOR" rfl rfl (.inr ⟨_, rfl⟩)
      (.read _ (.zeroPage z) (listed 7 rfl) fun _ => rfl)
  | .lsrZp z => meant_of (i := .lsrZp z) 0x46 "LSR" rfl rfl (.inr ⟨_, rfl⟩)
      (.modify _ (.zeroPage z) (listed 1 rfl) (by decide) fun _ => rfl)
  | .sreZp z => meant_of (i := .sreZp z) 0x47 "SRE" rfl rfl (.inr ⟨_, rfl⟩)
      (.composite _ _ (.zeroPage z) (listed 2 rfl) fun _ => rfl)
  | .pha => meant_of (i := .pha) 0x48 "PHA" rfl rfl (.inr ⟨_, rfl⟩)
      (.implied _ (listed 17 rfl) fun _ => rfl)
  | .eorImm v => meant_of (i := .eorImm v) 0x49 "EOR" rfl rfl (.inr ⟨_, rfl⟩)
      (.immediate _ v (listed 7 rfl) fun _ => rfl)
  | .lsrA => meant_of (i := .lsrA) 0x4A "LSR" rfl rfl (.inr ⟨_, rfl⟩)
      (.accumulator _ (listed 1 rfl) rfl fun _ => rfl)
  | .alr => meant_of (i := .alr) 0x4B "ALR" rfl rfl (.inl rfl)
      (.trap rfl fun _ => rfl)
  | .jmpAbs w => meant_of (i := .jmpAbs w) 0x4C "JMP" rfl rfl (.inr ⟨_, rfl⟩)
      (.jumpAbsolute w rfl fun _ => rfl)
  | .eorAbs w => meant_of (i := .eorAbs w) 0x4D "EOR" rfl rfl (.inr ⟨_, rfl⟩)
      (.read _ (.absolute w) (listed 7 rfl) fun _ => rfl)
  | .lsrAbs w => meant_of (i := .lsrAbs w) 0x4E "LSR" rfl rfl (.inr ⟨_, rfl⟩)
      (.modify _ (.absolute w) (listed 1 rfl) (by decide) fun _ => rfl)
  | .sreAbs w => meant_of (i := .sreAbs w) 0x4F "SRE" rfl rfl (.inr ⟨_, rfl⟩)
      (.composite _ _ (.absolute w) (listed 2 rfl) fun _ => rfl)
  | .bvc off => meant_of (i := .bvc off) 0x50 "BVC" rfl rfl (.inr ⟨_, rfl⟩)
      (.branch _ off (listed 6 rfl) fun _ => rfl)
  | .eorIndY z => meant_of (i := .eorIndY z) 0x51 "EOR" rfl rfl (.inr ⟨_, rfl⟩)
      (.read _ (.indirectY z) (listed 7 rfl) fun _ => rfl)
  | .jam52 => meant_of (i := .jam52) 0x52 "JAM" rfl rfl (.inl rfl)
      (.trap rfl fun _ => rfl)
  | .sreIndY z => meant_of (i := .sreIndY z) 0x53 "SRE" rfl rfl (.inr ⟨_, rfl⟩)
      (.composite _ _ (.indirectY z) (listed 2 rfl) fun _ => rfl)
  | .nopZpX54 z => meant_of (i := .nopZpX54 z) 0x54 "NOP" rfl rfl (.inr ⟨_, rfl⟩)
      (.read _ (.zeroPageX z) (listed 13 rfl) fun _ => rfl)
  | .eorZpX z => meant_of (i := .eorZpX z) 0x55 "EOR" rfl rfl (.inr ⟨_, rfl⟩)
      (.read _ (.zeroPageX z) (listed 7 rfl) fun _ => rfl)
  | .lsrZpX z => meant_of (i := .lsrZpX z) 0x56 "LSR" rfl rfl (.inr ⟨_, rfl⟩)
      (.modify _ (.zeroPageX z) (listed 1 rfl) (by decide) fun _ => rfl)
  | .sreZpX z => meant_of (i := .sreZpX z) 0x57 "SRE" rfl rfl (.inr ⟨_, rfl⟩)
      (.composite _ _ (.zeroPageX z) (listed 2 rfl) fun _ => rfl)
  | .cli => meant_of (i := .cli) 0x58 "CLI" rfl rfl (.inr ⟨_, rfl⟩)
      (.implied _ (listed 12 rfl) fun _ => rfl)
  | .eorAbsY w => meant_of (i := .eorAbsY w) 0x59 "EOR" rfl rfl (.inr ⟨_, rfl⟩)
      (.read _ (.absoluteY w) (listed 7 rfl) fun _ => rfl)
  | .nopImp5A => meant_of (i := .nopImp5A) 0x5A "NOP" rfl rfl (.inr ⟨_, rfl⟩)
      (.implied _ (listed 21 rfl) fun _ => rfl)
  | .sreAbsY w => meant_of (i := .sreAbsY w) 0x5B "SRE" rfl rfl (.inr ⟨_, rfl⟩)
      (.composite _ _ (.absoluteY w) (listed 2 rfl) fun _ => rfl)
  | .nopAbsX5C w => meant_of (i := .nopAbsX5C w) 0x5C "NOP" rfl rfl (.inr ⟨_, rfl⟩)
      (.read _ (.absoluteX w) (listed 13 rfl) fun _ => rfl)
  | .eorAbsX w => meant_of (i := .eorAbsX w) 0x5D "EOR" rfl rfl (.inr ⟨_, rfl⟩)
      (.read _ (.absoluteX w) (listed 7 rfl) fun _ => rfl)
  | .lsrAbsX w => meant_of (i := .lsrAbsX w) 0x5E "LSR" rfl rfl (.inr ⟨_, rfl⟩)
      (.modify _ (.absoluteX w) (listed 1 rfl) (by decide) fun _ => rfl)
  | .sreAbsX w => meant_of (i := .sreAbsX w) 0x5F "SRE" rfl rfl (.inr ⟨_, rfl⟩)
      (.composite _ _ (.absoluteX w) (listed 2 rfl) fun _ => rfl)
  | .rts => meant_of (i := .rts) 0x60 "RTS" rfl rfl (.inr ⟨_, rfl⟩)
      (.rts rfl fun _ => rfl)
  | .adcIndX z => meant_of (i := .adcIndX z) 0x61 "ADC" rfl rfl (.inr ⟨_, rfl⟩)
      (.read _ (.indirectX z) (listed 3 rfl) fun _ => rfl)
  | .jam62 => meant_of (i := .jam62) 0x62 "JAM" rfl rfl (.inl rfl)
      (.trap rfl fun _ => rfl)
  | .rraIndX z => meant_of (i := .rraIndX z) 0x63 "RRA" rfl rfl (.inr ⟨_, rfl⟩)
      (.composite _ _ (.indirectX z) (listed 3 rfl) fun _ => rfl)
  | .nopZp64 z => meant_of (i := .nopZp64 z) 0x64 "NOP" rfl rfl (.inr ⟨_, rfl⟩)
      (.read _ (.zeroPage z) (listed 13 rfl) fun _ => rfl)
  | .adcZp z => meant_of (i := .adcZp z) 0x65 "ADC" rfl rfl (.inr ⟨_, rfl⟩)
      (.read _ (.zeroPage z) (listed 3 rfl) fun _ => rfl)
  | .rorZp z => meant_of (i := .rorZp z) 0x66 "ROR" rfl rfl (.inr ⟨_, rfl⟩)
      (.modify _ (.zeroPage z) (listed 3 rfl) (by decide) fun _ => rfl)
  | .rraZp z => meant_of (i := .rraZp z) 0x67 "RRA" rfl rfl (.inr ⟨_, rfl⟩)
      (.composite _ _ (.zeroPage z) (listed 3 rfl) fun _ => rfl)
  | .pla => meant_of (i := .pla) 0x68 "PLA" rfl rfl (.inr ⟨_, rfl⟩)
      (.implied _ (listed 19 rfl) fun _ => rfl)
  | .adcImm v => meant_of (i := .adcImm v) 0x69 "ADC" rfl rfl (.inr ⟨_, rfl⟩)
      (.immediate _ v (listed 3 rfl) fun _ => rfl)
  | .rorA => meant_of (i := .rorA) 0x6A "ROR" rfl rfl (.inr ⟨_, rfl⟩)
      (.accumulator _ (listed 3 rfl) rfl fun _ => rfl)
  | .arr => meant_of (i := .arr) 0x6B "ARR" rfl rfl (.inl rfl)
      (.trap rfl fun _ => rfl)
  | .jmpInd w => meant_of (i := .jmpInd w) 0x6C "JMP" rfl rfl (.inr ⟨_, rfl⟩)
      (.jumpIndirect w rfl fun _ => rfl)
  | .adcAbs w => meant_of (i := .adcAbs w) 0x6D "ADC" rfl rfl (.inr ⟨_, rfl⟩)
      (.read _ (.absolute w) (listed 3 rfl) fun _ => rfl)
  | .rorAbs w => meant_of (i := .rorAbs w) 0x6E "ROR" rfl rfl (.inr ⟨_, rfl⟩)
      (.modify _ (.absolute w) (listed 3 rfl) (by decide) fun _ => rfl)
  | .rraAbs w => meant_of (i := .rraAbs w) 0x6F "RRA" rfl rfl (.inr ⟨_, rfl⟩)
      (.composite _ _ (.absolute w) (listed 3 rfl) fun _ => rfl)
  | .bvs off => meant_of (i := .bvs off) 0x70 "BVS" rfl rfl (.inr ⟨_, rfl⟩)
      (.branch _ off (listed 7 rfl) fun _ => rfl)
  | .adcIndY z => meant_of (i := .adcIndY z) 0x71 "ADC" rfl rfl (.inr ⟨_, rfl⟩)
      (.read _ (.indirectY z) (listed 3 rfl) fun _ => rfl)
  | .jam72 => meant_of (i := .jam72) 0x72 "JAM" rfl rfl (.inl rfl)
      (.trap rfl fun _ => rfl)
  | .rraIndY z => meant_of (i := .rraIndY z) 0x73 "RRA" rfl rfl (.inr ⟨_, rfl⟩)
      (.composite _ _ (.indirectY z) (listed 3 rfl) fun _ => rfl)
  | .nopZpX74 z => meant_of (i := .nopZpX74 z) 0x74 "NOP" rfl rfl (.inr ⟨_, rfl⟩)
      (.read _ (.zeroPageX z) (listed 13 rfl) fun _ => rfl)
  | .adcZpX z => meant_of (i := .adcZpX z) 0x75 "ADC" rfl rfl (.inr ⟨_, rfl⟩)
      (.read _ (.zeroPageX z) (listed 3 rfl) fun _ => rfl)
  | .rorZpX z => meant_of (i := .rorZpX z) 0x76 "ROR" rfl rfl (.inr ⟨_, rfl⟩)
      (.modify _ (.zeroPageX z) (listed 3 rfl) (by decide) fun _ => rfl)
  | .rraZpX z => meant_of (i := .rraZpX z) 0x77 "RRA" rfl rfl (.inr ⟨_, rfl⟩)
      (.composite _ _ (.zeroPageX z) (listed 3 rfl) fun _ => rfl)
  | .sei => meant_of (i := .sei) 0x78 "SEI" rfl rfl (.inr ⟨_, rfl⟩)
      (.implied _ (listed 13 rfl) fun _ => rfl)
  | .adcAbsY w => meant_of (i := .adcAbsY w) 0x79 "ADC" rfl rfl (.inr ⟨_, rfl⟩)
      (.read _ (.absoluteY w) (listed 3 rfl) fun _ => rfl)
  | .nopImp7A => meant_of (i := .nopImp7A) 0x7A "NOP" rfl rfl (.inr ⟨_, rfl⟩)
      (.implied _ (listed 21 rfl) fun _ => rfl)
  | .rraAbsY w => meant_of (i := .rraAbsY w) 0x7B "RRA" rfl rfl (.inr ⟨_, rfl⟩)
      (.composite _ _ (.absoluteY w) (listed 3 rfl) fun _ => rfl)
  | .nopAbsX7C w => meant_of (i := .nopAbsX7C w) 0x7C "NOP" rfl rfl (.inr ⟨_, rfl⟩)
      (.read _ (.absoluteX w) (listed 13 rfl) fun _ => rfl)
  | .adcAbsX w => meant_of (i := .adcAbsX w) 0x7D "ADC" rfl rfl (.inr ⟨_, rfl⟩)
      (.read _ (.absoluteX w) (listed 3 rfl) fun _ => rfl)
  | .rorAbsX w => meant_of (i := .rorAbsX w) 0x7E "ROR" rfl rfl (.inr ⟨_, rfl⟩)
      (.modify _ (.absoluteX w) (listed 3 rfl) (by decide) fun _ => rfl)
  | .rraAbsX w => meant_of (i := .rraAbsX w) 0x7F "RRA" rfl rfl (.inr ⟨_, rfl⟩)
      (.composite _ _ (.absoluteX w) (listed 3 rfl) fun _ => rfl)
  | .nopImm80 v => meant_of (i := .nopImm80 v) 0x80 "NOP" rfl rfl (.inr ⟨_, rfl⟩)
      (.immediate _ v (listed 13 rfl) fun _ => rfl)
  | .staIndX z => meant_of (i := .staIndX z) 0x81 "STA" rfl rfl (.inr ⟨_, rfl⟩)
      (.store _ (.indirectX z) (listed 0 rfl) fun _ => rfl)
  | .nopImm82 v => meant_of (i := .nopImm82 v) 0x82 "NOP" rfl rfl (.inr ⟨_, rfl⟩)
      (.immediate _ v (listed 13 rfl) fun _ => rfl)
  | .saxIndX z => meant_of (i := .saxIndX z) 0x83 "SAX" rfl rfl (.inr ⟨_, rfl⟩)
      (.store _ (.indirectX z) (listed 3 rfl) fun _ => rfl)
  | .styZp z => meant_of (i := .styZp z) 0x84 "STY" rfl rfl (.inr ⟨_, rfl⟩)
      (.store _ (.zeroPage z) (listed 2 rfl) fun _ => rfl)
  | .staZp z => meant_of (i := .staZp z) 0x85 "STA" rfl rfl (.inr ⟨_, rfl⟩)
      (.store _ (.zeroPage z) (listed 0 rfl) fun _ => rfl)
  | .stxZp z => meant_of (i := .stxZp z) 0x86 "STX" rfl rfl (.inr ⟨_, rfl⟩)
      (.store _ (.zeroPage z) (listed 1 rfl) fun _ => rfl)
  | .saxZp z => meant_of (i := .saxZp z) 0x87 "SAX" rfl rfl (.inr ⟨_, rfl⟩)
      (.store _ (.zeroPage z) (listed 3 rfl) fun _ => rfl)
  | .dey => meant_of (i := .dey) 0x88 "DEY" rfl rfl (.inr ⟨_, rfl⟩)
      (.implied _ (listed 9 rfl) fun _ => rfl)
  | .nopImm89 v => meant_of (i := .nopImm89 v) 0x89 "NOP" rfl rfl (.inr ⟨_, rfl⟩)
      (.immediate _ v (listed 13 rfl) fun _ => rfl)
  | .txa => meant_of (i := .txa) 0x8A "TXA" rfl rfl (.inr ⟨_, rfl⟩)
      (.implied _ (listed 2 rfl) fun _ => rfl)
  | .xaa => meant_of (i := .xaa) 0x8B "XAA" rfl rfl (.inl rfl)
      (.trap rfl fun _ => rfl)
  | .styAbs w => meant_of (i := .styAbs w) 0x8C "STY" rfl rfl (.inr ⟨_, rfl⟩)
      (.store _ (.absolute w) (listed 2 rfl) fun _ => rfl)
  | .staAbs w => meant_of (i := .staAbs w) 0x8D "STA" rfl rfl (.inr ⟨_, rfl⟩)
      (.store _ (.absolute w) (listed 0 rfl) fun _ => rfl)
  | .stxAbs w => meant_of (i := .stxAbs w) 0x8E "STX" rfl rfl (.inr ⟨_, rfl⟩)
      (.store _ (.absolute w) (listed 1 rfl) fun _ => rfl)
  | .saxAbs w => meant_of (i := .saxAbs w) 0x8F "SAX" rfl rfl (.inr ⟨_, rfl⟩)
      (.store _ (.absolute w) (listed 3 rfl) fun _ => rfl)
  | .bcc off => meant_of (i := .bcc off) 0x90 "BCC" rfl rfl (.inr ⟨_, rfl⟩)
      (.branch _ off (listed 0 rfl) fun _ => rfl)
  | .staIndY z => meant_of (i := .staIndY z) 0x91 "STA" rfl rfl (.inr ⟨_, rfl⟩)
      (.store _ (.indirectY z) (listed 0 rfl) fun _ => rfl)
  | .jam92 => meant_of (i := .jam92) 0x92 "JAM" rfl rfl (.inl rfl)
      (.trap rfl fun _ => rfl)
  | .sha93 => meant_of (i := .sha93) 0x93 "SHA" rfl rfl (.inl rfl)
      (.trap rfl fun _ => rfl)
  | .styZpX z => meant_of (i := .styZpX z) 0x94 "STY" rfl rfl (.inr ⟨_, rfl⟩)
      (.store _ (.zeroPageX z) (listed 2 rfl) fun _ => rfl)
  | .staZpX z => meant_of (i := .staZpX z) 0x95 "STA" rfl rfl (.inr ⟨_, rfl⟩)
      (.store _ (.zeroPageX z) (listed 0 rfl) fun _ => rfl)
  | .stxZpY z => meant_of (i := .stxZpY z) 0x96 "STX" rfl rfl (.inr ⟨_, rfl⟩)
      (.store _ (.zeroPageY z) (listed 1 rfl) fun _ => rfl)
  | .saxZpY z => meant_of (i := .saxZpY z) 0x97 "SAX" rfl rfl (.inr ⟨_, rfl⟩)
      (.store _ (.zeroPageY z) (listed 3 rfl) fun _ => rfl)
  | .tya => meant_of (i := .tya) 0x98 "TYA" rfl rfl (.inr ⟨_, rfl⟩)
      (.implied _ (listed 3 rfl) fun _ => rfl)
  | .staAbsY w => meant_of (i := .staAbsY w) 0x99 "STA" rfl rfl (.inr ⟨_, rfl⟩)
      (.store _ (.absoluteY w) (listed 0 rfl) fun _ => rfl)
  | .txs => meant_of (i := .txs) 0x9A "TXS" rfl rfl (.inr ⟨_, rfl⟩)
      (.implied _ (listed 5 rfl) fun _ => rfl)
  | .tas => meant_of (i := .tas) 0x9B "TAS" rfl rfl (.inl rfl)
      (.trap rfl fun _ => rfl)
  | .shy => meant_of (i := .shy) 0x9C "SHY" rfl rfl (.inl rfl)
      (.trap rfl fun _ => rfl)
  | .staAbsX w => meant_of (i := .staAbsX w) 0x9D "STA" rfl rfl (.inr ⟨_, rfl⟩)
      (.store _ (.absoluteX w) (listed 0 rfl) fun _ => rfl)
  | .shx => meant_of (i := .shx) 0x9E "SHX" rfl rfl (.inl rfl)
      (.trap rfl fun _ => rfl)
  | .sha9F => meant_of (i := .sha9F) 0x9F "SHA" rfl rfl (.inl rfl)
      (.trap rfl fun _ => rfl)
  | .ldyImm v => meant_of (i := .ldyImm v) 0xA0 "LDY" rfl rfl (.inr ⟨_, rfl⟩)
      (.immediate _ v (listed 2 rfl) fun _ => rfl)
  | .ldaIndX z => meant_of (i := .ldaIndX z) 0xA1 "LDA" rfl rfl (.inr ⟨_, rfl⟩)
      (.read _ (.indirectX z) (listed 0 rfl) fun _ => rfl)
  | .ldxImm v => meant_of (i := .ldxImm v) 0xA2 "LDX" rfl rfl (.inr ⟨_, rfl⟩)
      (.immediate _ v (listed 1 rfl) fun _ => rfl)
  | .laxIndX z => meant_of (i := .laxIndX z) 0xA3 "LAX" rfl rfl (.inr ⟨_, rfl⟩)
      (.read _ (.indirectX z) (listed 12 rfl) fun _ => rfl)
  | .ldyZp z => meant_of (i := .ldyZp z) 0xA4 "LDY" rfl rfl (.inr ⟨_, rfl⟩)
      (.read _ (.zeroPage z) (listed 2 rfl) fun _ => rfl)
  | .ldaZp z => meant_of (i := .ldaZp z) 0xA5 "LDA" rfl rfl (.inr ⟨_, rfl⟩)
      (.read _ (.zeroPage z) (listed 0 rfl) fun _ => rfl)
  | .ldxZp z => meant_of (i := .ldxZp z) 0xA6 "LDX" rfl rfl (.inr ⟨_, rfl⟩)
      (.read _ (.zeroPage z) (listed 1 rfl) fun _ => rfl)
  | .laxZp z => meant_of (i := .laxZp z) 0xA7 "LAX" rfl rfl (.inr ⟨_, rfl⟩)
      (.read _ (.zeroPage z) (listed 12 rfl) fun _ => rfl)
  | .tay => meant_of (i := .tay) 0xA8 "TAY" rfl rfl (.inr ⟨_, rfl⟩)
      (.implied _ (listed 1 rfl) fun _ => rfl)
  | .ldaImm v => meant_of (i := .ldaImm v) 0xA9 "LDA" rfl rfl (.inr ⟨_, rfl⟩)
      (.immediate _ v (listed 0 rfl) fun _ => rfl)
  | .tax => meant_of (i := .tax) 0xAA "TAX" rfl rfl (.inr ⟨_, rfl⟩)
      (.implied _ (listed 0 rfl) fun _ => rfl)
  | .lxa => meant_of (i := .lxa) 0xAB "LXA" rfl rfl (.inl rfl)
      (.trap rfl fun _ => rfl)
  | .ldyAbs w => meant_of (i := .ldyAbs w) 0xAC "LDY" rfl rfl (.inr ⟨_, rfl⟩)
      (.read _ (.absolute w) (listed 2 rfl) fun _ => rfl)
  | .ldaAbs w => meant_of (i := .ldaAbs w) 0xAD "LDA" rfl rfl (.inr ⟨_, rfl⟩)
      (.read _ (.absolute w) (listed 0 rfl) fun _ => rfl)
  | .ldxAbs w => meant_of (i := .ldxAbs w) 0xAE "LDX" rfl rfl (.inr ⟨_, rfl⟩)
      (.read _ (.absolute w) (listed 1 rfl) fun _ => rfl)
  | .laxAbs w => meant_of (i := .laxAbs w) 0xAF "LAX" rfl rfl (.inr ⟨_, rfl⟩)
      (.read _ (.absolute w) (listed 12 rfl) fun _ => rfl)
  | .bcs off => meant_of (i := .bcs off) 0xB0 "BCS" rfl rfl (.inr ⟨_, rfl⟩)
      (.branch _ off (listed 1 rfl) fun _ => rfl)
  | .ldaIndY z => meant_of (i := .ldaIndY z) 0xB1 "LDA" rfl rfl (.inr ⟨_, rfl⟩)
      (.read _ (.indirectY z) (listed 0 rfl) fun _ => rfl)
  | .jamB2 => meant_of (i := .jamB2) 0xB2 "JAM" rfl rfl (.inl rfl)
      (.trap rfl fun _ => rfl)
  | .laxIndY z => meant_of (i := .laxIndY z) 0xB3 "LAX" rfl rfl (.inr ⟨_, rfl⟩)
      (.read _ (.indirectY z) (listed 12 rfl) fun _ => rfl)
  | .ldyZpX z => meant_of (i := .ldyZpX z) 0xB4 "LDY" rfl rfl (.inr ⟨_, rfl⟩)
      (.read _ (.zeroPageX z) (listed 2 rfl) fun _ => rfl)
  | .ldaZpX z => meant_of (i := .ldaZpX z) 0xB5 "LDA" rfl rfl (.inr ⟨_, rfl⟩)
      (.read _ (.zeroPageX z) (listed 0 rfl) fun _ => rfl)
  | .ldxZpY z => meant_of (i := .ldxZpY z) 0xB6 "LDX" rfl rfl (.inr ⟨_, rfl⟩)
      (.read _ (.zeroPageY z) (listed 1 rfl) fun _ => rfl)
  | .laxZpY z => meant_of (i := .laxZpY z) 0xB7 "LAX" rfl rfl (.inr ⟨_, rfl⟩)
      (.read _ (.zeroPageY z) (listed 12 rfl) fun _ => rfl)
  | .clv => meant_of (i := .clv) 0xB8 "CLV" rfl rfl (.inr ⟨_, rfl⟩)
      (.implied _ (listed 16 rfl) fun _ => rfl)
  | .ldaAbsY w => meant_of (i := .ldaAbsY w) 0xB9 "LDA" rfl rfl (.inr ⟨_, rfl⟩)
      (.read _ (.absoluteY w) (listed 0 rfl) fun _ => rfl)
  | .tsx => meant_of (i := .tsx) 0xBA "TSX" rfl rfl (.inr ⟨_, rfl⟩)
      (.implied _ (listed 4 rfl) fun _ => rfl)
  | .las => meant_of (i := .las) 0xBB "LAS" rfl rfl (.inl rfl)
      (.trap rfl fun _ => rfl)
  | .ldyAbsX w => meant_of (i := .ldyAbsX w) 0xBC "LDY" rfl rfl (.inr ⟨_, rfl⟩)
      (.read _ (.absoluteX w) (listed 2 rfl) fun _ => rfl)
  | .ldaAbsX w => meant_of (i := .ldaAbsX w) 0xBD "LDA" rfl rfl (.inr ⟨_, rfl⟩)
      (.read _ (.absoluteX w) (listed 0 rfl) fun _ => rfl)
  | .ldxAbsY w => meant_of (i := .ldxAbsY w) 0xBE "LDX" rfl rfl (.inr ⟨_, rfl⟩)
      (.read _ (.absoluteY w) (listed 1 rfl) fun _ => rfl)
  | .laxAbsY w => meant_of (i := .laxAbsY w) 0xBF "LAX" rfl rfl (.inr ⟨_, rfl⟩)
      (.read _ (.absoluteY w) (listed 12 rfl) fun _ => rfl)
  | .cpyImm v => meant_of (i := .cpyImm v) 0xC0 "CPY" rfl rfl (.inr ⟨_, rfl⟩)
      (.immediate _ v (listed 10 rfl) fun _ => rfl)
  | .cmpIndX z => meant_of (i := .cmpIndX z) 0xC1 "CMP" rfl rfl (.inr ⟨_, rfl⟩)
      (.read _ (.indirectX z) (listed 8 rfl) fun _ => rfl)
  | .nopImmC2 v => meant_of (i := .nopImmC2 v) 0xC2 "NOP" rfl rfl (.inr ⟨_, rfl⟩)
      (.immediate _ v (listed 13 rfl) fun _ => rfl)
  | .dcpIndX z => meant_of (i := .dcpIndX z) 0xC3 "DCP" rfl rfl (.inr ⟨_, rfl⟩)
      (.composite _ _ (.indirectX z) (listed 4 rfl) fun _ => rfl)
  | .cpyZp z => meant_of (i := .cpyZp z) 0xC4 "CPY" rfl rfl (.inr ⟨_, rfl⟩)
      (.read _ (.zeroPage z) (listed 10 rfl) fun _ => rfl)
  | .cmpZp z => meant_of (i := .cmpZp z) 0xC5 "CMP" rfl rfl (.inr ⟨_, rfl⟩)
      (.read _ (.zeroPage z) (listed 8 rfl) fun _ => rfl)
  | .decZp z => meant_of (i := .decZp z) 0xC6 "DEC" rfl rfl (.inr ⟨_, rfl⟩)
      (.modify _ (.zeroPage z) (listed 5 rfl) (by decide) fun _ => rfl)
  | .dcpZp z => meant_of (i := .dcpZp z) 0xC7 "DCP" rfl rfl (.inr ⟨_, rfl⟩)
      (.composite _ _ (.zeroPage z) (listed 4 rfl) fun _ => rfl)
  | .iny => meant_of (i := .iny) 0xC8 "INY" rfl rfl (.inr ⟨_, rfl⟩)
      (.implied _ (listed 7 rfl) fun _ => rfl)
  | .cmpImm v => meant_of (i := .cmpImm v) 0xC9 "CMP" rfl rfl (.inr ⟨_, rfl⟩)
      (.immediate _ v (listed 8 rfl) fun _ => rfl)
  | .dex => meant_of (i := .dex) 0xCA "DEX" rfl rfl (.inr ⟨_, rfl⟩)
      (.implied _ (listed 8 rfl) fun _ => rfl)
  | .sbx => meant_of (i := .sbx) 0xCB "SBX" rfl rfl (.inl rfl)
      (.trap rfl fun _ => rfl)
  | .cpyAbs w => meant_of (i := .cpyAbs w) 0xCC "CPY" rfl rfl (.inr ⟨_, rfl⟩)
      (.read _ (.absolute w) (listed 10 rfl) fun _ => rfl)
  | .cmpAbs w => meant_of (i := .cmpAbs w) 0xCD "CMP" rfl rfl (.inr ⟨_, rfl⟩)
      (.read _ (.absolute w) (listed 8 rfl) fun _ => rfl)
  | .decAbs w => meant_of (i := .decAbs w) 0xCE "DEC" rfl rfl (.inr ⟨_, rfl⟩)
      (.modify _ (.absolute w) (listed 5 rfl) (by decide) fun _ => rfl)
  | .dcpAbs w => meant_of (i := .dcpAbs w) 0xCF "DCP" rfl rfl (.inr ⟨_, rfl⟩)
      (.composite _ _ (.absolute w) (listed 4 rfl) fun _ => rfl)
  | .bne off => meant_of (i := .bne off) 0xD0 "BNE" rfl rfl (.inr ⟨_, rfl⟩)
      (.branch _ off (listed 3 rfl) fun _ => rfl)
  | .cmpIndY z => meant_of (i := .cmpIndY z) 0xD1 "CMP" rfl rfl (.inr ⟨_, rfl⟩)
      (.read _ (.indirectY z) (listed 8 rfl) fun _ => rfl)
  | .jamD2 => meant_of (i := .jamD2) 0xD2 "JAM" rfl rfl (.inl rfl)
      (.trap rfl fun _ => rfl)
  | .dcpIndY z => meant_of (i := .dcpIndY z) 0xD3 "DCP" rfl rfl (.inr ⟨_, rfl⟩)
      (.composite _ _ (.indirectY z) (listed 4 rfl) fun _ => rfl)
  | .nopZpXD4 z => meant_of (i := .nopZpXD4 z) 0xD4 "NOP" rfl rfl (.inr ⟨_, rfl⟩)
      (.read _ (.zeroPageX z) (listed 13 rfl) fun _ => rfl)
  | .cmpZpX z => meant_of (i := .cmpZpX z) 0xD5 "CMP" rfl rfl (.inr ⟨_, rfl⟩)
      (.read _ (.zeroPageX z) (listed 8 rfl) fun _ => rfl)
  | .decZpX z => meant_of (i := .decZpX z) 0xD6 "DEC" rfl rfl (.inr ⟨_, rfl⟩)
      (.modify _ (.zeroPageX z) (listed 5 rfl) (by decide) fun _ => rfl)
  | .dcpZpX z => meant_of (i := .dcpZpX z) 0xD7 "DCP" rfl rfl (.inr ⟨_, rfl⟩)
      (.composite _ _ (.zeroPageX z) (listed 4 rfl) fun _ => rfl)
  | .cld => meant_of (i := .cld) 0xD8 "CLD" rfl rfl (.inr ⟨_, rfl⟩)
      (.implied _ (listed 14 rfl) fun _ => rfl)
  | .cmpAbsY w => meant_of (i := .cmpAbsY w) 0xD9 "CMP" rfl rfl (.inr ⟨_, rfl⟩)
      (.read _ (.absoluteY w) (listed 8 rfl) fun _ => rfl)
  | .nopImpDA => meant_of (i := .nopImpDA) 0xDA "NOP" rfl rfl (.inr ⟨_, rfl⟩)
      (.implied _ (listed 21 rfl) fun _ => rfl)
  | .dcpAbsY w => meant_of (i := .dcpAbsY w) 0xDB "DCP" rfl rfl (.inr ⟨_, rfl⟩)
      (.composite _ _ (.absoluteY w) (listed 4 rfl) fun _ => rfl)
  | .nopAbsXDC w => meant_of (i := .nopAbsXDC w) 0xDC "NOP" rfl rfl (.inr ⟨_, rfl⟩)
      (.read _ (.absoluteX w) (listed 13 rfl) fun _ => rfl)
  | .cmpAbsX w => meant_of (i := .cmpAbsX w) 0xDD "CMP" rfl rfl (.inr ⟨_, rfl⟩)
      (.read _ (.absoluteX w) (listed 8 rfl) fun _ => rfl)
  | .decAbsX w => meant_of (i := .decAbsX w) 0xDE "DEC" rfl rfl (.inr ⟨_, rfl⟩)
      (.modify _ (.absoluteX w) (listed 5 rfl) (by decide) fun _ => rfl)
  | .dcpAbsX w => meant_of (i := .dcpAbsX w) 0xDF "DCP" rfl rfl (.inr ⟨_, rfl⟩)
      (.composite _ _ (.absoluteX w) (listed 4 rfl) fun _ => rfl)
  | .cpxImm v => meant_of (i := .cpxImm v) 0xE0 "CPX" rfl rfl (.inr ⟨_, rfl⟩)
      (.immediate _ v (listed 9 rfl) fun _ => rfl)
  | .sbcIndX z => meant_of (i := .sbcIndX z) 0xE1 "SBC" rfl rfl (.inr ⟨_, rfl⟩)
      (.read _ (.indirectX z) (listed 4 rfl) fun _ => rfl)
  | .nopImmE2 v => meant_of (i := .nopImmE2 v) 0xE2 "NOP" rfl rfl (.inr ⟨_, rfl⟩)
      (.immediate _ v (listed 13 rfl) fun _ => rfl)
  | .isbIndX z => meant_of (i := .isbIndX z) 0xE3 "ISB" rfl rfl (.inr ⟨_, rfl⟩)
      (.composite _ _ (.indirectX z) (listed 5 rfl) fun _ => rfl)
  | .cpxZp z => meant_of (i := .cpxZp z) 0xE4 "CPX" rfl rfl (.inr ⟨_, rfl⟩)
      (.read _ (.zeroPage z) (listed 9 rfl) fun _ => rfl)
  | .sbcZp z => meant_of (i := .sbcZp z) 0xE5 "SBC" rfl rfl (.inr ⟨_, rfl⟩)
      (.read _ (.zeroPage z) (listed 4 rfl) fun _ => rfl)
  | .incZp z => meant_of (i := .incZp z) 0xE6 "INC" rfl rfl (.inr ⟨_, rfl⟩)
      (.modify _ (.zeroPage z) (listed 4 rfl) (by decide) fun _ => rfl)
  | .isbZp z => meant_of (i := .isbZp z) 0xE7 "ISB" rfl rfl (.inr ⟨_, rfl⟩)
      (.composite _ _ (.zeroPage z) (listed 5 rfl) fun _ => rfl)
  | .inx => meant_of (i := .inx) 0xE8 "INX" rfl rfl (.inr ⟨_, rfl⟩)
      (.implied _ (listed 6 rfl) fun _ => rfl)
  | .sbcImm v => meant_of (i := .sbcImm v) 0xE9 "SBC" rfl rfl (.inr ⟨_, rfl⟩)
      (.immediate _ v (listed 4 rfl) fun _ => rfl)
  | .nop => meant_of (i := .nop) 0xEA "NOP" rfl rfl (.inr ⟨_, rfl⟩)
      (.implied _ (listed 21 rfl) fun _ => rfl)
  | .sbcImmEB v => meant_of (i := .sbcImmEB v) 0xEB "SBC" rfl rfl (.inr ⟨_, rfl⟩)
      (.immediate _ v (listed 4 rfl) fun _ => rfl)
  | .cpxAbs w => meant_of (i := .cpxAbs w) 0xEC "CPX" rfl rfl (.inr ⟨_, rfl⟩)
      (.read _ (.absolute w) (listed 9 rfl) fun _ => rfl)
  | .sbcAbs w => meant_of (i := .sbcAbs w) 0xED "SBC" rfl rfl (.inr ⟨_, rfl⟩)
      (.read _ (.absolute w) (listed 4 rfl) fun _ => rfl)
  | .incAbs w => meant_of (i := .incAbs w) 0xEE "INC" rfl rfl (.inr ⟨_, rfl⟩)
      (.modify _ (.absolute w) (listed 4 rfl) (by decide) fun _ => rfl)
  | .isbAbs w => meant_of (i := .isbAbs w) 0xEF "ISB" rfl rfl (.inr ⟨_, rfl⟩)
      (.composite _ _ (.absolute w) (listed 5 rfl) fun _ => rfl)
  | .beq off => meant_of (i := .beq off) 0xF0 "BEQ" rfl rfl (.inr ⟨_, rfl⟩)
      (.branch _ off (listed 2 rfl) fun _ => rfl)
  | .sbcIndY z => meant_of (i := .sbcIndY z) 0xF1 "SBC" rfl rfl (.inr ⟨_, rfl⟩)
      (.read _ (.indirectY z) (listed 4 rfl) fun _ => rfl)
  | .jamF2 => meant_of (i := .jamF2) 0xF2 "JAM" rfl rfl (.inl rfl)
      (.trap rfl fun _ => rfl)
  | .isbIndY z => meant_of (i := .isbIndY z) 0xF3 "ISB" rfl rfl (.inr ⟨_, rfl⟩)
      (.composite _ _ (.indirectY z) (listed 5 rfl) fun _ => rfl)
  | .nopZpXF4 z => meant_of (i := .nopZpXF4 z) 0xF4 "NOP" rfl rfl (.inr ⟨_, rfl⟩)
      (.read _ (.zeroPageX z) (listed 13 rfl) fun _ => rfl)
  | .sbcZpX z => meant_of (i := .sbcZpX z) 0xF5 "SBC" rfl rfl (.inr ⟨_, rfl⟩)
      (.read _ (.zeroPageX z) (listed 4 rfl) fun _ => rfl)
  | .incZpX z => meant_of (i := .incZpX z) 0xF6 "INC" rfl rfl (.inr ⟨_, rfl⟩)
      (.modify _ (.zeroPageX z) (listed 4 rfl) (by decide) fun _ => rfl)
  | .isbZpX z => meant_of (i := .isbZpX z) 0xF7 "ISB" rfl rfl (.inr ⟨_, rfl⟩)
      (.composite _ _ (.zeroPageX z) (listed 5 rfl) fun _ => rfl)
  | .sed => meant_of (i := .sed) 0xF8 "SED" rfl rfl (.inr ⟨_, rfl⟩)
      (.implied _ (listed 15 rfl) fun _ => rfl)
  | .sbcAbsY w => meant_of (i := .sbcAbsY w) 0xF9 "SBC" rfl rfl (.inr ⟨_, rfl⟩)
      (.read _ (.absoluteY w) (listed 4 rfl) fun _ => rfl)
  | .nopImpFA => meant_of (i := .nopImpFA) 0xFA "NOP" rfl rfl (.inr ⟨_, rfl⟩)
      (.implied _ (listed 21 rfl) fun _ => rfl)
  | .isbAbsY w => meant_of (i := .isbAbsY w) 0xFB "ISB" rfl rfl (.inr ⟨_, rfl⟩)
      (.composite _ _ (.absoluteY w) (listed 5 rfl) fun _ => rfl)
  | .nopAbsXFC w => meant_of (i := .nopAbsXFC w) 0xFC "NOP" rfl rfl (.inr ⟨_, rfl⟩)
      (.read _ (.absoluteX w) (listed 13 rfl) fun _ => rfl)
  | .sbcAbsX w => meant_of (i := .sbcAbsX w) 0xFD "SBC" rfl rfl (.inr ⟨_, rfl⟩)
      (.read _ (.absoluteX w) (listed 4 rfl) fun _ => rfl)
  | .incAbsX w => meant_of (i := .incAbsX w) 0xFE "INC" rfl rfl (.inr ⟨_, rfl⟩)
      (.modify _ (.absoluteX w) (listed 4 rfl) (by decide) fun _ => rfl)
  | .isbAbsX w => meant_of (i := .isbAbsX w) 0xFF "ISB" rfl rfl (.inr ⟨_, rfl⟩)
      (.composite _ _ (.absoluteX w) (listed 5 rfl) fun _ => rfl)

end Sys2Proof.Machine
end

