-- ==== Sys2Proof/Laws/Flags.lean ====
section
/-! SUPPORT. Laws of the status register: reading one bit of P after each flag computation. -/

namespace Sys2Proof.Machine

open Sys2Proof

/-- The bits of a byte with one bit set. -/
theorem one_shiftLeft_getLsbD (i k : Nat) (hi : i < 8) : ((1 : Byte) <<< i).getLsbD k = decide (k = i) := by
  rw [BitVec.getLsbD_shiftLeft, show (1 : Byte) = 1#8 from rfl, BitVec.getLsbD_one]
  by_cases h : k = i <;> simp [h] <;> omega

/-- One bit of P after one bit was set, for every bit. -/
@[simp] theorem setBit_getLsbD (p : Byte) (i : Nat) (b : Bool) (k : Nat) (hi : i < 8) :
    (setBit p i b).getLsbD k = if k = i then b else p.getLsbD k := by
  by_cases hk : k < 8
  · rw [setBit, BitVec.getLsbD_or, BitVec.getLsbD_and, BitVec.getLsbD_not, one_shiftLeft_getLsbD i k hi]
    have hb : (bit b i).getLsbD k = (b && decide (k = i)) := by
      cases b
      · simp [bit]
      · rw [bit, if_pos rfl, one_shiftLeft_getLsbD i k hi]; simp
    rw [hb]
    by_cases h : k = i <;> simp [h, hk]
  · have h2 : k ≠ i := by omega
    rw [if_neg h2, BitVec.getLsbD_of_ge _ _ (by omega), BitVec.getLsbD_of_ge _ _ (by omega)]

/-- Bit 7 and zero of a result: Z and N after `setZN`, every other bit as before. -/
theorem setZN_getLsbD (v p : Byte) (k : Nat) :
    (setZN v p).getLsbD k = if k = 7 then v.getLsbD 7 else if k = 1 then v == 0 else p.getLsbD k := by
  simp [setZN, setN, setZ]

theorem setAdder_getLsbD (sum : Sum) (p : Byte) (k : Nat) :
    (setAdder sum p).getLsbD k =
      if k = 7 then sum.result.getLsbD 7 else if k = 1 then sum.result == 0
      else if k = 6 then sum.overflow else if k = 0 then sum.carry else p.getLsbD k := by
  simp [setAdder, setZN_getLsbD, setV, setC]

theorem setCompare_getLsbD (reg m p : Byte) (k : Nat) :
    (setCompare reg m p).getLsbD k =
      if k = 7 then (reg - m).getLsbD 7 else if k = 1 then reg == m
      else if k = 0 then decide (m.toNat ≤ reg.toNat) else p.getLsbD k := by
  simp [setCompare, setN, setZ, setC]

theorem setBitTest_getLsbD (a m p : Byte) (k : Nat) :
    (setBitTest a m p).getLsbD k =
      if k = 6 then m.getLsbD 6 else if k = 7 then m.getLsbD 7 else if k = 1 then a &&& m == 0 else p.getLsbD k := by
  simp [setBitTest, setV, setN, setZ]

theorem setC_getLsbD (b : Bool) (p : Byte) (k : Nat) : (setC b p).getLsbD k = if k = 0 then b else p.getLsbD k := by
  simp [setC]

theorem setI_getLsbD (b : Bool) (p : Byte) (k : Nat) : (setI b p).getLsbD k = if k = 2 then b else p.getLsbD k := by
  simp [setI]

theorem setD_getLsbD (b : Bool) (p : Byte) (k : Nat) : (setD b p).getLsbD k = if k = 3 then b else p.getLsbD k := by
  simp [setD]

theorem setV_getLsbD (b : Bool) (p : Byte) (k : Nat) : (setV b p).getLsbD k = if k = 6 then b else p.getLsbD k := by
  simp [setV]

/-- P after RTI: bit 5 is 1, every other bit the pulled one. -/
theorem statusPulledByRti_getLsbD (v : Byte) (k : Nat) :
    (statusPulledByRti v).getLsbD k = (v.getLsbD k || decide (k = 5)) := by
  rw [statusPulledByRti, BitVec.getLsbD_or, show (0x20 : Byte) = (1 : Byte) <<< 5 from rfl, one_shiftLeft_getLsbD 5 k (by decide)]

/-- P after PLP: bit 5 is 1, bit 4 is the live one, every other bit the pulled one. -/
theorem statusPulledByPlp_getLsbD (v p : Byte) (k : Nat) :
    (statusPulledByPlp v p).getLsbD k =
      if k = 5 then true else if k = 4 then p.getLsbD 4 else v.getLsbD k := by
  by_cases hk : k < 8
  · rw [statusPulledByPlp, show (0xCF : Byte) = ~~~((1 : Byte) <<< 4 ||| (1 : Byte) <<< 5) from rfl, show (0x10 : Byte) = (1 : Byte) <<< 4 from rfl,
      show (0x20 : Byte) = (1 : Byte) <<< 5 from rfl]
    simp only [BitVec.getLsbD_or, BitVec.getLsbD_and, BitVec.getLsbD_not, one_shiftLeft_getLsbD _ k (by decide : 4 < 8),
      one_shiftLeft_getLsbD _ k (by decide : 5 < 8), hk]
    by_cases h5 : k = 5
    · simp [h5]
    · by_cases h4 : k = 4 <;> simp [h4, h5]
  · have h5 : k ≠ 5 := by omega
    have h4 : k ≠ 4 := by omega
    rw [BitVec.getLsbD_of_ge _ _ (by omega), if_neg h5, if_neg h4, BitVec.getLsbD_of_ge _ _ (by omega)]

/-- Two status bytes are equal when their eight bits are. -/
theorem status_ext {p q : Byte} (h : ∀ k, k < 8 → p.getLsbD k = q.getLsbD k) : p = q :=
  BitVec.eq_of_getLsbD_eq fun k hk => h k hk

/-- The adder's result is the exact sum modulo 256. -/
theorem addWithCarry_result (a b : Byte) (c : Bool) :
    (addWithCarry a b c).result.toNat = (a.toNat + b.toNat + c.toNat) % 256 := by
  simp [addWithCarry]

/-! Each flag after each computation of P. -/

@[simp] theorem flagC_setZN (v p : Byte) : flagC (setZN v p) = flagC p :=
  setZN_getLsbD v p 0
@[simp] theorem flagZ_setZN (v p : Byte) : flagZ (setZN v p) = (v == 0) :=
  setZN_getLsbD v p 1
@[simp] theorem flagI_setZN (v p : Byte) : flagI (setZN v p) = flagI p :=
  setZN_getLsbD v p 2
@[simp] theorem flagD_setZN (v p : Byte) : flagD (setZN v p) = flagD p :=
  setZN_getLsbD v p 3
@[simp] theorem flagB_setZN (v p : Byte) : flagB (setZN v p) = flagB p :=
  setZN_getLsbD v p 4
@[simp] theorem flagU_setZN (v p : Byte) : flagU (setZN v p) = flagU p :=
  setZN_getLsbD v p 5
@[simp] theorem flagV_setZN (v p : Byte) : flagV (setZN v p) = flagV p :=
  setZN_getLsbD v p 6
@[simp] theorem flagN_setZN (v p : Byte) : flagN (setZN v p) = v.getLsbD 7 :=
  setZN_getLsbD v p 7

@[simp] theorem flagC_setAdder (sum : Sum) (p : Byte) : flagC (setAdder sum p) = sum.carry :=
  setAdder_getLsbD sum p 0
@[simp] theorem flagZ_setAdder (sum : Sum) (p : Byte) : flagZ (setAdder sum p) = (sum.result == 0) :=
  setAdder_getLsbD sum p 1
@[simp] theorem flagI_setAdder (sum : Sum) (p : Byte) : flagI (setAdder sum p) = flagI p :=
  setAdder_getLsbD sum p 2
@[simp] theorem flagD_setAdder (sum : Sum) (p : Byte) : flagD (setAdder sum p) = flagD p :=
  setAdder_getLsbD sum p 3
@[simp] theorem flagB_setAdder (sum : Sum) (p : Byte) : flagB (setAdder sum p) = flagB p :=
  setAdder_getLsbD sum p 4
@[simp] theorem flagU_setAdder (sum : Sum) (p : Byte) : flagU (setAdder sum p) = flagU p :=
  setAdder_getLsbD sum p 5
@[simp] theorem flagV_setAdder (sum : Sum) (p : Byte) : flagV (setAdder sum p) = sum.overflow :=
  setAdder_getLsbD sum p 6
@[simp] theorem flagN_setAdder (sum : Sum) (p : Byte) : flagN (setAdder sum p) = sum.result.getLsbD 7 :=
  setAdder_getLsbD sum p 7

@[simp] theorem flagC_setCompare (reg m p : Byte) : flagC (setCompare reg m p) = decide (m.toNat ≤ reg.toNat) :=
  setCompare_getLsbD reg m p 0
@[simp] theorem flagZ_setCompare (reg m p : Byte) : flagZ (setCompare reg m p) = (reg == m) :=
  setCompare_getLsbD reg m p 1
@[simp] theorem flagI_setCompare (reg m p : Byte) : flagI (setCompare reg m p) = flagI p :=
  setCompare_getLsbD reg m p 2
@[simp] theorem flagD_setCompare (reg m p : Byte) : flagD (setCompare reg m p) = flagD p :=
  setCompare_getLsbD reg m p 3
@[simp] theorem flagB_setCompare (reg m p : Byte) : flagB (setCompare reg m p) = flagB p :=
  setCompare_getLsbD reg m p 4
@[simp] theorem flagU_setCompare (reg m p : Byte) : flagU (setCompare reg m p) = flagU p :=
  setCompare_getLsbD reg m p 5
@[simp] theorem flagV_setCompare (reg m p : Byte) : flagV (setCompare reg m p) = flagV p :=
  setCompare_getLsbD reg m p 6
@[simp] theorem flagN_setCompare (reg m p : Byte) : flagN (setCompare reg m p) = (reg - m).getLsbD 7 :=
  setCompare_getLsbD reg m p 7

@[simp] theorem flagC_setBitTest (a m p : Byte) : flagC (setBitTest a m p) = flagC p :=
  setBitTest_getLsbD a m p 0
@[simp] theorem flagZ_setBitTest (a m p : Byte) : flagZ (setBitTest a m p) = (a &&& m == 0) :=
  setBitTest_getLsbD a m p 1
@[simp] theorem flagI_setBitTest (a m p : Byte) : flagI (setBitTest a m p) = flagI p :=
  setBitTest_getLsbD a m p 2
@[simp] theorem flagD_setBitTest (a m p : Byte) : flagD (setBitTest a m p) = flagD p :=
  setBitTest_getLsbD a m p 3
@[simp] theorem flagB_setBitTest (a m p : Byte) : flagB (setBitTest a m p) = flagB p :=
  setBitTest_getLsbD a m p 4
@[simp] theorem flagU_setBitTest (a m p : Byte) : flagU (setBitTest a m p) = flagU p :=
  setBitTest_getLsbD a m p 5
@[simp] theorem flagV_setBitTest (a m p : Byte) : flagV (setBitTest a m p) = m.getLsbD 6 :=
  setBitTest_getLsbD a m p 6
@[simp] theorem flagN_setBitTest (a m p : Byte) : flagN (setBitTest a m p) = m.getLsbD 7 :=
  setBitTest_getLsbD a m p 7

@[simp] theorem flagC_setC (b : Bool) (p : Byte) : flagC (setC b p) = b :=
  setC_getLsbD b p 0
@[simp] theorem flagZ_setC (b : Bool) (p : Byte) : flagZ (setC b p) = flagZ p :=
  setC_getLsbD b p 1
@[simp] theorem flagI_setC (b : Bool) (p : Byte) : flagI (setC b p) = flagI p :=
  setC_getLsbD b p 2
@[simp] theorem flagD_setC (b : Bool) (p : Byte) : flagD (setC b p) = flagD p :=
  setC_getLsbD b p 3
@[simp] theorem flagB_setC (b : Bool) (p : Byte) : flagB (setC b p) = flagB p :=
  setC_getLsbD b p 4
@[simp] theorem flagU_setC (b : Bool) (p : Byte) : flagU (setC b p) = flagU p :=
  setC_getLsbD b p 5
@[simp] theorem flagV_setC (b : Bool) (p : Byte) : flagV (setC b p) = flagV p :=
  setC_getLsbD b p 6
@[simp] theorem flagN_setC (b : Bool) (p : Byte) : flagN (setC b p) = flagN p :=
  setC_getLsbD b p 7

@[simp] theorem flagC_setI (b : Bool) (p : Byte) : flagC (setI b p) = flagC p :=
  setI_getLsbD b p 0
@[simp] theorem flagZ_setI (b : Bool) (p : Byte) : flagZ (setI b p) = flagZ p :=
  setI_getLsbD b p 1
@[simp] theorem flagI_setI (b : Bool) (p : Byte) : flagI (setI b p) = b :=
  setI_getLsbD b p 2
@[simp] theorem flagD_setI (b : Bool) (p : Byte) : flagD (setI b p) = flagD p :=
  setI_getLsbD b p 3
@[simp] theorem flagB_setI (b : Bool) (p : Byte) : flagB (setI b p) = flagB p :=
  setI_getLsbD b p 4
@[simp] theorem flagU_setI (b : Bool) (p : Byte) : flagU (setI b p) = flagU p :=
  setI_getLsbD b p 5
@[simp] theorem flagV_setI (b : Bool) (p : Byte) : flagV (setI b p) = flagV p :=
  setI_getLsbD b p 6
@[simp] theorem flagN_setI (b : Bool) (p : Byte) : flagN (setI b p) = flagN p :=
  setI_getLsbD b p 7

@[simp] theorem flagC_setD (b : Bool) (p : Byte) : flagC (setD b p) = flagC p :=
  setD_getLsbD b p 0
@[simp] theorem flagZ_setD (b : Bool) (p : Byte) : flagZ (setD b p) = flagZ p :=
  setD_getLsbD b p 1
@[simp] theorem flagI_setD (b : Bool) (p : Byte) : flagI (setD b p) = flagI p :=
  setD_getLsbD b p 2
@[simp] theorem flagD_setD (b : Bool) (p : Byte) : flagD (setD b p) = b :=
  setD_getLsbD b p 3
@[simp] theorem flagB_setD (b : Bool) (p : Byte) : flagB (setD b p) = flagB p :=
  setD_getLsbD b p 4
@[simp] theorem flagU_setD (b : Bool) (p : Byte) : flagU (setD b p) = flagU p :=
  setD_getLsbD b p 5
@[simp] theorem flagV_setD (b : Bool) (p : Byte) : flagV (setD b p) = flagV p :=
  setD_getLsbD b p 6
@[simp] theorem flagN_setD (b : Bool) (p : Byte) : flagN (setD b p) = flagN p :=
  setD_getLsbD b p 7

@[simp] theorem flagC_setV (b : Bool) (p : Byte) : flagC (setV b p) = flagC p :=
  setV_getLsbD b p 0
@[simp] theorem flagZ_setV (b : Bool) (p : Byte) : flagZ (setV b p) = flagZ p :=
  setV_getLsbD b p 1
@[simp] theorem flagI_setV (b : Bool) (p : Byte) : flagI (setV b p) = flagI p :=
  setV_getLsbD b p 2
@[simp] theorem flagD_setV (b : Bool) (p : Byte) : flagD (setV b p) = flagD p :=
  setV_getLsbD b p 3
@[simp] theorem flagB_setV (b : Bool) (p : Byte) : flagB (setV b p) = flagB p :=
  setV_getLsbD b p 4
@[simp] theorem flagU_setV (b : Bool) (p : Byte) : flagU (setV b p) = flagU p :=
  setV_getLsbD b p 5
@[simp] theorem flagV_setV (b : Bool) (p : Byte) : flagV (setV b p) = b :=
  setV_getLsbD b p 6
@[simp] theorem flagN_setV (b : Bool) (p : Byte) : flagN (setV b p) = flagN p :=
  setV_getLsbD b p 7

@[simp] theorem flagC_statusPulledByRti (v : Byte) : flagC (statusPulledByRti v) = flagC v :=
  (statusPulledByRti_getLsbD v 0).trans (Bool.or_false _)
@[simp] theorem flagZ_statusPulledByRti (v : Byte) : flagZ (statusPulledByRti v) = flagZ v :=
  (statusPulledByRti_getLsbD v 1).trans (Bool.or_false _)
@[simp] theorem flagI_statusPulledByRti (v : Byte) : flagI (statusPulledByRti v) = flagI v :=
  (statusPulledByRti_getLsbD v 2).trans (Bool.or_false _)
@[simp] theorem flagD_statusPulledByRti (v : Byte) : flagD (statusPulledByRti v) = flagD v :=
  (statusPulledByRti_getLsbD v 3).trans (Bool.or_false _)
@[simp] theorem flagB_statusPulledByRti (v : Byte) : flagB (statusPulledByRti v) = flagB v :=
  (statusPulledByRti_getLsbD v 4).trans (Bool.or_false _)
@[simp] theorem flagU_statusPulledByRti (v : Byte) : flagU (statusPulledByRti v) = true :=
  (statusPulledByRti_getLsbD v 5).trans (Bool.or_true _)
@[simp] theorem flagV_statusPulledByRti (v : Byte) : flagV (statusPulledByRti v) = flagV v :=
  (statusPulledByRti_getLsbD v 6).trans (Bool.or_false _)
@[simp] theorem flagN_statusPulledByRti (v : Byte) : flagN (statusPulledByRti v) = flagN v :=
  (statusPulledByRti_getLsbD v 7).trans (Bool.or_false _)

@[simp] theorem flagC_statusPulledByPlp (v p : Byte) : flagC (statusPulledByPlp v p) = flagC v :=
  statusPulledByPlp_getLsbD v p 0
@[simp] theorem flagZ_statusPulledByPlp (v p : Byte) : flagZ (statusPulledByPlp v p) = flagZ v :=
  statusPulledByPlp_getLsbD v p 1
@[simp] theorem flagI_statusPulledByPlp (v p : Byte) : flagI (statusPulledByPlp v p) = flagI v :=
  statusPulledByPlp_getLsbD v p 2
@[simp] theorem flagD_statusPulledByPlp (v p : Byte) : flagD (statusPulledByPlp v p) = flagD v :=
  statusPulledByPlp_getLsbD v p 3
@[simp] theorem flagB_statusPulledByPlp (v p : Byte) : flagB (statusPulledByPlp v p) = flagB p :=
  statusPulledByPlp_getLsbD v p 4
@[simp] theorem flagU_statusPulledByPlp (v p : Byte) : flagU (statusPulledByPlp v p) = true :=
  statusPulledByPlp_getLsbD v p 5
@[simp] theorem flagV_statusPulledByPlp (v p : Byte) : flagV (statusPulledByPlp v p) = flagV v :=
  statusPulledByPlp_getLsbD v p 6
@[simp] theorem flagN_statusPulledByPlp (v p : Byte) : flagN (statusPulledByPlp v p) = flagN v :=
  statusPulledByPlp_getLsbD v p 7

end Sys2Proof.Machine
end

