-- ==== Sys2Proof/Laws/Memory.lean ====
section
/-! SUPPORT. Laws of memory: what a read after a write gives, and that a write keeps the canonical form. -/

namespace Sys2Proof.Machine

open Sys2Proof

/-- A canonical memory lists no address below its start. -/
theorem Memory.read_below {m : Memory} {n a : Nat} (h : Memory.wfFrom n m = true) (ha : a < n) :
    Memory.read m a = Config.unlistedByte := by
  induction m generalizing n with
  | nil => rfl
  | cons c rest ih =>
    obtain ⟨k, v⟩ := c
    simp only [Memory.wfFrom, Bool.and_eq_true, decide_eq_true_eq] at h
    have hk : k ≠ a := by omega
    simp only [Memory.read, hk, if_false]
    exact ih h.2 (by omega)

theorem Memory.wfFrom_mono {m : Memory} {n k : Nat} (h : Memory.wfFrom n m = true) (hk : k ≤ n) :
    Memory.wfFrom k m = true := by
  cases m with
  | nil => rfl
  | cons c rest =>
    simp only [Memory.wfFrom, Bool.and_eq_true, decide_eq_true_eq] at h ⊢
    exact ⟨⟨⟨by omega, h.1.1.2⟩, h.1.2⟩, h.2⟩

/-- Every write keeps the canonical form. -/
theorem Memory.wfFrom_write {m : Memory} {n a : Nat} (v : Byte) (h : Memory.wfFrom n m = true) (hn : n ≤ a)
    (ha : a < 65536) : Memory.wfFrom n (Memory.write m a v) = true := by
  induction m generalizing n with
  | nil =>
    simp only [Memory.write]
    split <;> simp_all [Memory.wfFrom]
  | cons c rest ih =>
    obtain ⟨k, w⟩ := c
    simp only [Memory.wfFrom, Bool.and_eq_true, decide_eq_true_eq] at h
    obtain ⟨⟨⟨h1, h2⟩, h3⟩, h4⟩ := h
    simp only [Memory.write]
    split
    · split <;> simp_all [Memory.wfFrom]
    · split
      · split
        · exact Memory.wfFrom_mono h4 (by omega)
        · simp_all [Memory.wfFrom]
      · simp only [Memory.wfFrom, Bool.and_eq_true, decide_eq_true_eq]
        exact ⟨⟨⟨h1, h2⟩, h3⟩, ih h4 (by omega)⟩

/-- Every write keeps memory well formed. -/
theorem Memory.wf_write {m : Memory} (a : Addr) (v : Byte) (h : m.wf = true) : (Memory.write m a.toNat v).wf = true :=
  Memory.wfFrom_write v h (Nat.zero_le _) a.isLt

/-- A read of another address is not changed by a write, in any memory. -/
theorem Memory.read_write_other (m : Memory) {a b : Nat} (v : Byte) (h : b ≠ a) :
    Memory.read (Memory.write m a v) b = Memory.read m b := by
  induction m with
  | nil =>
    simp only [Memory.write]
    split <;> simp [Memory.read, Ne.symm h]
  | cons c rest ih =>
    obtain ⟨k, w⟩ := c
    simp only [Memory.write]
    split
    · split <;> simp [Memory.read, Ne.symm h]
    · split
      · subst_vars
        split <;> simp [Memory.read, Ne.symm h]
      · simp only [Memory.read, ih]

/-- A read gives what was last written, in a canonical memory. -/
theorem Memory.read_write_same {m : Memory} {n : Nat} (a : Nat) (v : Byte) (hm : Memory.wfFrom n m = true) :
    Memory.read (Memory.write m a v) a = v := by
  induction m generalizing n with
  | nil =>
    simp only [Memory.write]
    split <;> simp_all [Memory.read]
  | cons c rest ih =>
    obtain ⟨k, w⟩ := c
    have hm' := hm
    simp only [Memory.wfFrom, Bool.and_eq_true, decide_eq_true_eq] at hm
    simp only [Memory.write]
    split
    · split
      · have : Memory.wfFrom (a + 1) ((k, w) :: rest) = true := by
          simp only [Memory.wfFrom, Bool.and_eq_true, decide_eq_true_eq]
          exact ⟨⟨⟨by omega, hm.1.1.2⟩, hm.1.2⟩, hm.2⟩
        rw [Memory.read_below this (by omega)]
        exact Eq.symm ‹_›
      · simp [Memory.read]
    · split
      · subst_vars
        split
        · rw [Memory.read_below hm.2 (by omega)]; exact Eq.symm ‹_›
        · simp [Memory.read]
      · have hk : k ≠ a := fun e => ‹¬ a = k› e.symm
        simp only [Memory.read, hk, if_false]
        exact ih hm.2

/-- A canonical memory lists an address with a byte that reads as it, unlike what an unlisted address reads as. -/
theorem Memory.read_head {k : Nat} {v : Byte} {rest : Memory} : Memory.read ((k, v) :: rest) k = v := by
  simp [Memory.read]

/-- Canonical memories that read alike are equal: equal memories are equal data. -/
theorem Memory.ext_of_read {m n : Memory} {i : Nat} (hm : Memory.wfFrom i m = true) (hn : Memory.wfFrom i n = true)
    (h : ∀ a, Memory.read m a = Memory.read n a) : m = n := by
  induction m generalizing n i with
  | nil =>
    cases n with
    | nil => rfl
    | cons c rest =>
      obtain ⟨k, v⟩ := c
      simp only [Memory.wfFrom, Bool.and_eq_true, decide_eq_true_eq] at hn
      exact absurd ((h k).trans Memory.read_head).symm hn.1.2
  | cons c rest ih =>
    obtain ⟨k, v⟩ := c
    cases n with
    | nil =>
      simp only [Memory.wfFrom, Bool.and_eq_true, decide_eq_true_eq] at hm
      exact absurd (Memory.read_head.symm.trans (h k)) hm.1.2
    | cons d rest' =>
      obtain ⟨l, w⟩ := d
      simp only [Memory.wfFrom, Bool.and_eq_true, decide_eq_true_eq] at hm hn
      have below : ∀ {j x y : Nat} {u : Byte} {r : Memory}, Memory.wfFrom (y + 1) r = true → x < y →
          Memory.read ((y, u) :: r) x = Config.unlistedByte := by
        intro j x y u r hr hxy
        have hne : y ≠ x := by omega
        simp only [Memory.read, hne, if_false]
        exact Memory.read_below hr (by omega)
      have hkl : k = l := by
        rcases Nat.lt_trichotomy k l with hlt | heq | hgt
        · exact absurd (Memory.read_head.symm.trans ((h k).trans (below (j := 0) hn.2 hlt))) hm.1.2
        · exact heq
        · exact absurd (Memory.read_head.symm.trans ((h l).symm.trans (below (j := 0) hm.2 hgt))) hn.1.2
      subst hkl
      have hvw : v = w := Memory.read_head.symm.trans ((h k).trans Memory.read_head)
      subst hvw
      have hrest : rest = rest' := by
        refine ih hm.2 hn.2 fun a => ?_
        by_cases ha : k = a
        · subst ha
          rw [Memory.read_below hm.2 (by omega), Memory.read_below hn.2 (by omega)]
        · have := h a
          simpa only [Memory.read, ha, if_false] using this
      rw [hrest]

end Sys2Proof.Machine
end

