-- ==== Sys2Proof/Laws/State.lean ====
section
/-! SUPPORT. One lemma for each field of State under each shared operation: which fields an operation leaves alone and
what it puts into the others. Every lemma is true by unfolding, so that no later proof needs to. -/

namespace Sys2Proof.Machine

open Sys2Proof

@[simp] theorem busRead_pc (ad : Addr) (s : State) : (busRead ad s).2.pc = s.pc := rfl
@[simp] theorem busRead_sp (ad : Addr) (s : State) : (busRead ad s).2.sp = s.sp := rfl
@[simp] theorem busRead_a (ad : Addr) (s : State) : (busRead ad s).2.a = s.a := rfl
@[simp] theorem busRead_x (ad : Addr) (s : State) : (busRead ad s).2.x = s.x := rfl
@[simp] theorem busRead_y (ad : Addr) (s : State) : (busRead ad s).2.y = s.y := rfl
@[simp] theorem busRead_p (ad : Addr) (s : State) : (busRead ad s).2.p = s.p := rfl
@[simp] theorem busRead_mem (ad : Addr) (s : State) : (busRead ad s).2.mem = s.mem := rfl
@[simp] theorem busRead_halted (ad : Addr) (s : State) : (busRead ad s).2.halted = s.halted := rfl
@[simp] theorem busRead_pcValid (ad : Addr) (s : State) : (busRead ad s).2.pcValid = s.pcValid := rfl
@[simp] theorem busRead_accesses (ad : Addr) (s : State) : (busRead ad s).2.accesses = s.accesses ++ [.read ad (busRead ad s).1] := rfl
@[simp] theorem busRead_returned (ad : Addr) (s : State) : (busRead ad s).2.returned = s.returned := rfl
@[simp] theorem busRead_calls (ad : Addr) (s : State) : (busRead ad s).2.calls = s.calls := rfl
@[simp] theorem busRead_script (ad : Addr) (s : State) : (busRead ad s).2.script = s.script.tail := rfl

@[simp] theorem busWrite_pc (ad : Addr) (v : Byte) (s : State) : (busWrite ad v s).pc = s.pc := rfl
@[simp] theorem busWrite_sp (ad : Addr) (v : Byte) (s : State) : (busWrite ad v s).sp = s.sp := rfl
@[simp] theorem busWrite_a (ad : Addr) (v : Byte) (s : State) : (busWrite ad v s).a = s.a := rfl
@[simp] theorem busWrite_x (ad : Addr) (v : Byte) (s : State) : (busWrite ad v s).x = s.x := rfl
@[simp] theorem busWrite_y (ad : Addr) (v : Byte) (s : State) : (busWrite ad v s).y = s.y := rfl
@[simp] theorem busWrite_p (ad : Addr) (v : Byte) (s : State) : (busWrite ad v s).p = s.p := rfl
@[simp] theorem busWrite_halted (ad : Addr) (v : Byte) (s : State) : (busWrite ad v s).halted = s.halted := rfl
@[simp] theorem busWrite_pcValid (ad : Addr) (v : Byte) (s : State) : (busWrite ad v s).pcValid = s.pcValid := rfl
@[simp] theorem busWrite_accesses (ad : Addr) (v : Byte) (s : State) : (busWrite ad v s).accesses = s.accesses ++ [.write ad v] := rfl
@[simp] theorem busWrite_returned (ad : Addr) (v : Byte) (s : State) : (busWrite ad v s).returned = s.returned := rfl
@[simp] theorem busWrite_calls (ad : Addr) (v : Byte) (s : State) : (busWrite ad v s).calls = s.calls := rfl
@[simp] theorem busWrite_script (ad : Addr) (v : Byte) (s : State) : (busWrite ad v s).script = s.script.tail := rfl

@[simp] theorem push_pc (v : Byte) (s : State) : (push v s).pc = s.pc := rfl
@[simp] theorem push_sp (v : Byte) (s : State) : (push v s).sp = s.sp - 1 := rfl
@[simp] theorem push_a (v : Byte) (s : State) : (push v s).a = s.a := rfl
@[simp] theorem push_x (v : Byte) (s : State) : (push v s).x = s.x := rfl
@[simp] theorem push_y (v : Byte) (s : State) : (push v s).y = s.y := rfl
@[simp] theorem push_p (v : Byte) (s : State) : (push v s).p = s.p := rfl
@[simp] theorem push_mem (v : Byte) (s : State) : (push v s).mem = (busWrite (stackAddr s.sp) v s).mem := rfl
@[simp] theorem push_halted (v : Byte) (s : State) : (push v s).halted = s.halted := rfl
@[simp] theorem push_pcValid (v : Byte) (s : State) : (push v s).pcValid = s.pcValid := rfl
@[simp] theorem push_accesses (v : Byte) (s : State) : (push v s).accesses = s.accesses ++ [.write (stackAddr s.sp) v] := rfl
@[simp] theorem push_returned (v : Byte) (s : State) : (push v s).returned = s.returned := rfl
@[simp] theorem push_calls (v : Byte) (s : State) : (push v s).calls = s.calls := rfl
@[simp] theorem push_script (v : Byte) (s : State) : (push v s).script = s.script.tail := rfl

@[simp] theorem pull_pc (s : State) : (pull s).2.pc = s.pc := rfl
@[simp] theorem pull_sp (s : State) : (pull s).2.sp = s.sp + 1 := rfl
@[simp] theorem pull_a (s : State) : (pull s).2.a = s.a := rfl
@[simp] theorem pull_x (s : State) : (pull s).2.x = s.x := rfl
@[simp] theorem pull_y (s : State) : (pull s).2.y = s.y := rfl
@[simp] theorem pull_p (s : State) : (pull s).2.p = s.p := rfl
@[simp] theorem pull_mem (s : State) : (pull s).2.mem = s.mem := rfl
@[simp] theorem pull_halted (s : State) : (pull s).2.halted = s.halted := rfl
@[simp] theorem pull_pcValid (s : State) : (pull s).2.pcValid = s.pcValid := rfl
@[simp] theorem pull_accesses (s : State) : (pull s).2.accesses = s.accesses ++ [.read (stackAddr (s.sp + 1)) (pull s).1] := rfl
@[simp] theorem pull_returned (s : State) : (pull s).2.returned = s.returned := rfl
@[simp] theorem pull_calls (s : State) : (pull s).2.calls = s.calls := rfl
@[simp] theorem pull_script (s : State) : (pull s).2.script = s.script.tail := rfl

@[simp] theorem busReadWord_pc (ad : Addr) (s : State) : (busReadWord ad s).2.pc = s.pc := rfl
@[simp] theorem busReadWord_sp (ad : Addr) (s : State) : (busReadWord ad s).2.sp = s.sp := rfl
@[simp] theorem busReadWord_a (ad : Addr) (s : State) : (busReadWord ad s).2.a = s.a := rfl
@[simp] theorem busReadWord_x (ad : Addr) (s : State) : (busReadWord ad s).2.x = s.x := rfl
@[simp] theorem busReadWord_y (ad : Addr) (s : State) : (busReadWord ad s).2.y = s.y := rfl
@[simp] theorem busReadWord_p (ad : Addr) (s : State) : (busReadWord ad s).2.p = s.p := rfl
@[simp] theorem busReadWord_mem (ad : Addr) (s : State) : (busReadWord ad s).2.mem = s.mem := rfl
@[simp] theorem busReadWord_halted (ad : Addr) (s : State) : (busReadWord ad s).2.halted = s.halted := rfl
@[simp] theorem busReadWord_pcValid (ad : Addr) (s : State) : (busReadWord ad s).2.pcValid = s.pcValid := rfl
@[simp] theorem busReadWord_returned (ad : Addr) (s : State) : (busReadWord ad s).2.returned = s.returned := rfl
@[simp] theorem busReadWord_calls (ad : Addr) (s : State) : (busReadWord ad s).2.calls = s.calls := rfl
@[simp] theorem busReadWord_script (ad : Addr) (s : State) : (busReadWord ad s).2.script = s.script.tail.tail := rfl

@[simp] theorem pushWord_pc (w : Addr) (s : State) : (pushWord w s).pc = s.pc := rfl
@[simp] theorem pushWord_sp (w : Addr) (s : State) : (pushWord w s).sp = s.sp - 1 - 1 := rfl
@[simp] theorem pushWord_a (w : Addr) (s : State) : (pushWord w s).a = s.a := rfl
@[simp] theorem pushWord_x (w : Addr) (s : State) : (pushWord w s).x = s.x := rfl
@[simp] theorem pushWord_y (w : Addr) (s : State) : (pushWord w s).y = s.y := rfl
@[simp] theorem pushWord_p (w : Addr) (s : State) : (pushWord w s).p = s.p := rfl
@[simp] theorem pushWord_halted (w : Addr) (s : State) : (pushWord w s).halted = s.halted := rfl
@[simp] theorem pushWord_pcValid (w : Addr) (s : State) : (pushWord w s).pcValid = s.pcValid := rfl
@[simp] theorem pushWord_returned (w : Addr) (s : State) : (pushWord w s).returned = s.returned := rfl
@[simp] theorem pushWord_calls (w : Addr) (s : State) : (pushWord w s).calls = s.calls := rfl
@[simp] theorem pushWord_script (w : Addr) (s : State) : (pushWord w s).script = s.script.tail.tail := rfl

@[simp] theorem pullWord_pc (s : State) : (pullWord s).2.pc = s.pc := rfl
@[simp] theorem pullWord_sp (s : State) : (pullWord s).2.sp = s.sp + 1 + 1 := rfl
@[simp] theorem pullWord_a (s : State) : (pullWord s).2.a = s.a := rfl
@[simp] theorem pullWord_x (s : State) : (pullWord s).2.x = s.x := rfl
@[simp] theorem pullWord_y (s : State) : (pullWord s).2.y = s.y := rfl
@[simp] theorem pullWord_p (s : State) : (pullWord s).2.p = s.p := rfl
@[simp] theorem pullWord_mem (s : State) : (pullWord s).2.mem = s.mem := rfl
@[simp] theorem pullWord_halted (s : State) : (pullWord s).2.halted = s.halted := rfl
@[simp] theorem pullWord_pcValid (s : State) : (pullWord s).2.pcValid = s.pcValid := rfl
@[simp] theorem pullWord_returned (s : State) : (pullWord s).2.returned = s.returned := rfl
@[simp] theorem pullWord_calls (s : State) : (pullWord s).2.calls = s.calls := rfl
@[simp] theorem pullWord_script (s : State) : (pullWord s).2.script = s.script.tail.tail := rfl

@[simp] theorem zeroPageWord_pc (z : Byte) (s : State) : (zeroPageWord z s).2.pc = s.pc := rfl
@[simp] theorem zeroPageWord_sp (z : Byte) (s : State) : (zeroPageWord z s).2.sp = s.sp := rfl
@[simp] theorem zeroPageWord_a (z : Byte) (s : State) : (zeroPageWord z s).2.a = s.a := rfl
@[simp] theorem zeroPageWord_x (z : Byte) (s : State) : (zeroPageWord z s).2.x = s.x := rfl
@[simp] theorem zeroPageWord_y (z : Byte) (s : State) : (zeroPageWord z s).2.y = s.y := rfl
@[simp] theorem zeroPageWord_p (z : Byte) (s : State) : (zeroPageWord z s).2.p = s.p := rfl
@[simp] theorem zeroPageWord_mem (z : Byte) (s : State) : (zeroPageWord z s).2.mem = s.mem := rfl
@[simp] theorem zeroPageWord_halted (z : Byte) (s : State) : (zeroPageWord z s).2.halted = s.halted := rfl
@[simp] theorem zeroPageWord_pcValid (z : Byte) (s : State) : (zeroPageWord z s).2.pcValid = s.pcValid := rfl
@[simp] theorem zeroPageWord_returned (z : Byte) (s : State) : (zeroPageWord z s).2.returned = s.returned := rfl
@[simp] theorem zeroPageWord_calls (z : Byte) (s : State) : (zeroPageWord z s).2.calls = s.calls := rfl
@[simp] theorem zeroPageWord_script (z : Byte) (s : State) : (zeroPageWord z s).2.script = s.script.tail.tail := rfl

@[simp] theorem resolveIndirect_pc (w : Addr) (s : State) : (resolveIndirect w s).2.pc = s.pc := rfl
@[simp] theorem resolveIndirect_sp (w : Addr) (s : State) : (resolveIndirect w s).2.sp = s.sp := rfl
@[simp] theorem resolveIndirect_a (w : Addr) (s : State) : (resolveIndirect w s).2.a = s.a := rfl
@[simp] theorem resolveIndirect_x (w : Addr) (s : State) : (resolveIndirect w s).2.x = s.x := rfl
@[simp] theorem resolveIndirect_y (w : Addr) (s : State) : (resolveIndirect w s).2.y = s.y := rfl
@[simp] theorem resolveIndirect_p (w : Addr) (s : State) : (resolveIndirect w s).2.p = s.p := rfl
@[simp] theorem resolveIndirect_mem (w : Addr) (s : State) : (resolveIndirect w s).2.mem = s.mem := rfl
@[simp] theorem resolveIndirect_halted (w : Addr) (s : State) : (resolveIndirect w s).2.halted = s.halted := rfl
@[simp] theorem resolveIndirect_pcValid (w : Addr) (s : State) : (resolveIndirect w s).2.pcValid = s.pcValid := rfl
@[simp] theorem resolveIndirect_returned (w : Addr) (s : State) : (resolveIndirect w s).2.returned = s.returned := rfl
@[simp] theorem resolveIndirect_calls (w : Addr) (s : State) : (resolveIndirect w s).2.calls = s.calls := rfl
@[simp] theorem resolveIndirect_script (w : Addr) (s : State) : (resolveIndirect w s).2.script = s.script.tail.tail := rfl

@[simp] theorem retire_pc (op : Byte) (crossed : Bool) (s : State) : (retire op crossed s).pc = s.pc + BitVec.ofNat 16 (descriptor op).size := rfl
@[simp] theorem retire_sp (op : Byte) (crossed : Bool) (s : State) : (retire op crossed s).sp = s.sp := rfl
@[simp] theorem retire_a (op : Byte) (crossed : Bool) (s : State) : (retire op crossed s).a = s.a := rfl
@[simp] theorem retire_x (op : Byte) (crossed : Bool) (s : State) : (retire op crossed s).x = s.x := rfl
@[simp] theorem retire_y (op : Byte) (crossed : Bool) (s : State) : (retire op crossed s).y = s.y := rfl
@[simp] theorem retire_p (op : Byte) (crossed : Bool) (s : State) : (retire op crossed s).p = s.p := rfl
@[simp] theorem retire_mem (op : Byte) (crossed : Bool) (s : State) : (retire op crossed s).mem = s.mem := rfl
@[simp] theorem retire_halted (op : Byte) (crossed : Bool) (s : State) : (retire op crossed s).halted = s.halted := rfl
@[simp] theorem retire_pcValid (op : Byte) (crossed : Bool) (s : State) : (retire op crossed s).pcValid = s.pcValid := rfl
@[simp] theorem retire_accesses (op : Byte) (crossed : Bool) (s : State) : (retire op crossed s).accesses = s.accesses := rfl
@[simp] theorem retire_returned (op : Byte) (crossed : Bool) (s : State) : (retire op crossed s).returned = .cycles (cyclesOf op crossed) := rfl
@[simp] theorem retire_calls (op : Byte) (crossed : Bool) (s : State) : (retire op crossed s).calls = s.calls := rfl
@[simp] theorem retire_script (op : Byte) (crossed : Bool) (s : State) : (retire op crossed s).script = s.script := rfl

@[simp] theorem raiseFatal_pc (op : Byte) (s : State) : (raiseFatal op s).pc = s.pc := rfl
@[simp] theorem raiseFatal_sp (op : Byte) (s : State) : (raiseFatal op s).sp = s.sp := rfl
@[simp] theorem raiseFatal_a (op : Byte) (s : State) : (raiseFatal op s).a = s.a := rfl
@[simp] theorem raiseFatal_x (op : Byte) (s : State) : (raiseFatal op s).x = s.x := rfl
@[simp] theorem raiseFatal_y (op : Byte) (s : State) : (raiseFatal op s).y = s.y := rfl
@[simp] theorem raiseFatal_p (op : Byte) (s : State) : (raiseFatal op s).p = s.p := rfl
@[simp] theorem raiseFatal_mem (op : Byte) (s : State) : (raiseFatal op s).mem = s.mem := rfl
@[simp] theorem raiseFatal_halted (op : Byte) (s : State) : (raiseFatal op s).halted = some { opcode := op, pc := s.pc, registers := s.registers } := rfl
@[simp] theorem raiseFatal_pcValid (op : Byte) (s : State) : (raiseFatal op s).pcValid = s.pcValid := rfl
@[simp] theorem raiseFatal_accesses (op : Byte) (s : State) : (raiseFatal op s).accesses = s.accesses := rfl
@[simp] theorem raiseFatal_returned (op : Byte) (s : State) : (raiseFatal op s).returned = .fatal := rfl
@[simp] theorem raiseFatal_calls (op : Byte) (s : State) : (raiseFatal op s).calls = s.calls := rfl
@[simp] theorem raiseFatal_script (op : Byte) (s : State) : (raiseFatal op s).script = s.script := rfl

@[simp] theorem enterHandler_sp (ret : Addr) (q : Byte) (vec : Addr) (s : State) : (enterHandler ret q vec s).sp = s.sp - 1 - 1 - 1 := rfl
@[simp] theorem enterHandler_a (ret : Addr) (q : Byte) (vec : Addr) (s : State) : (enterHandler ret q vec s).a = s.a := rfl
@[simp] theorem enterHandler_x (ret : Addr) (q : Byte) (vec : Addr) (s : State) : (enterHandler ret q vec s).x = s.x := rfl
@[simp] theorem enterHandler_y (ret : Addr) (q : Byte) (vec : Addr) (s : State) : (enterHandler ret q vec s).y = s.y := rfl
@[simp] theorem enterHandler_p (ret : Addr) (q : Byte) (vec : Addr) (s : State) : (enterHandler ret q vec s).p = setI true s.p := rfl
@[simp] theorem enterHandler_mem (ret : Addr) (q : Byte) (vec : Addr) (s : State) : (enterHandler ret q vec s).mem = (push q (pushWord ret s)).mem := rfl
@[simp] theorem enterHandler_halted (ret : Addr) (q : Byte) (vec : Addr) (s : State) : (enterHandler ret q vec s).halted = s.halted := rfl
@[simp] theorem enterHandler_pcValid (ret : Addr) (q : Byte) (vec : Addr) (s : State) : (enterHandler ret q vec s).pcValid = s.pcValid := rfl
@[simp] theorem enterHandler_returned (ret : Addr) (q : Byte) (vec : Addr) (s : State) : (enterHandler ret q vec s).returned = s.returned := rfl
@[simp] theorem enterHandler_calls (ret : Addr) (q : Byte) (vec : Addr) (s : State) : (enterHandler ret q vec s).calls = s.calls := rfl

@[simp] theorem returnFromHandler_sp (s : State) : (returnFromHandler s).sp = s.sp + 1 + 1 + 1 := rfl
@[simp] theorem returnFromHandler_a (s : State) : (returnFromHandler s).a = s.a := rfl
@[simp] theorem returnFromHandler_x (s : State) : (returnFromHandler s).x = s.x := rfl
@[simp] theorem returnFromHandler_y (s : State) : (returnFromHandler s).y = s.y := rfl
@[simp] theorem returnFromHandler_p (s : State) : (returnFromHandler s).p = statusPulledByRti (pull s).1 := rfl
@[simp] theorem returnFromHandler_mem (s : State) : (returnFromHandler s).mem = s.mem := rfl
@[simp] theorem returnFromHandler_halted (s : State) : (returnFromHandler s).halted = s.halted := rfl
@[simp] theorem returnFromHandler_pcValid (s : State) : (returnFromHandler s).pcValid = s.pcValid := rfl
@[simp] theorem returnFromHandler_returned (s : State) : (returnFromHandler s).returned = s.returned := rfl
@[simp] theorem returnFromHandler_calls (s : State) : (returnFromHandler s).calls = s.calls := rfl

@[simp] theorem interruptEntry_pc (vec : Addr) (s : State) : (interruptEntry vec s).pc = (enterHandler s.pc (statusPushedByInterrupt s.p) vec s).pc := rfl
@[simp] theorem interruptEntry_sp (vec : Addr) (s : State) : (interruptEntry vec s).sp = s.sp - 1 - 1 - 1 := rfl
@[simp] theorem interruptEntry_a (vec : Addr) (s : State) : (interruptEntry vec s).a = s.a := rfl
@[simp] theorem interruptEntry_x (vec : Addr) (s : State) : (interruptEntry vec s).x = s.x := rfl
@[simp] theorem interruptEntry_y (vec : Addr) (s : State) : (interruptEntry vec s).y = s.y := rfl
@[simp] theorem interruptEntry_p (vec : Addr) (s : State) : (interruptEntry vec s).p = setI true s.p := rfl
@[simp] theorem interruptEntry_mem (vec : Addr) (s : State) : (interruptEntry vec s).mem = (enterHandler s.pc (statusPushedByInterrupt s.p) vec s).mem := rfl
@[simp] theorem interruptEntry_halted (vec : Addr) (s : State) : (interruptEntry vec s).halted = s.halted := rfl
@[simp] theorem interruptEntry_pcValid (vec : Addr) (s : State) : (interruptEntry vec s).pcValid = s.pcValid := rfl
@[simp] theorem interruptEntry_accesses (vec : Addr) (s : State) : (interruptEntry vec s).accesses = (enterHandler s.pc (statusPushedByInterrupt s.p) vec s).accesses := rfl
@[simp] theorem interruptEntry_returned (vec : Addr) (s : State) : (interruptEntry vec s).returned = .cycles Config.entryCycles := rfl
@[simp] theorem interruptEntry_calls (vec : Addr) (s : State) : (interruptEntry vec s).calls = s.calls := rfl
@[simp] theorem interruptEntry_script (vec : Addr) (s : State) : (interruptEntry vec s).script = (enterHandler s.pc (statusPushedByInterrupt s.p) vec s).script := rfl

@[simp] theorem beginCall_pc (s : State) : (beginCall s).pc = s.pc := rfl
@[simp] theorem beginCall_sp (s : State) : (beginCall s).sp = s.sp := rfl
@[simp] theorem beginCall_a (s : State) : (beginCall s).a = s.a := rfl
@[simp] theorem beginCall_x (s : State) : (beginCall s).x = s.x := rfl
@[simp] theorem beginCall_y (s : State) : (beginCall s).y = s.y := rfl
@[simp] theorem beginCall_p (s : State) : (beginCall s).p = s.p := rfl
@[simp] theorem beginCall_mem (s : State) : (beginCall s).mem = s.mem := rfl
@[simp] theorem beginCall_halted (s : State) : (beginCall s).halted = s.halted := rfl
@[simp] theorem beginCall_pcValid (s : State) : (beginCall s).pcValid = s.pcValid := rfl
@[simp] theorem beginCall_accesses (s : State) : (beginCall s).accesses = [] := rfl
@[simp] theorem beginCall_returned (s : State) : (beginCall s).returned = s.returned := rfl
@[simp] theorem beginCall_calls (s : State) : (beginCall s).calls = s.calls := rfl
@[simp] theorem beginCall_script (s : State) : (beginCall s).script = s.script := rfl

@[simp] theorem noStep_pc (s : State) : (noStep s).pc = s.pc := rfl
@[simp] theorem noStep_sp (s : State) : (noStep s).sp = s.sp := rfl
@[simp] theorem noStep_a (s : State) : (noStep s).a = s.a := rfl
@[simp] theorem noStep_x (s : State) : (noStep s).x = s.x := rfl
@[simp] theorem noStep_y (s : State) : (noStep s).y = s.y := rfl
@[simp] theorem noStep_p (s : State) : (noStep s).p = s.p := rfl
@[simp] theorem noStep_mem (s : State) : (noStep s).mem = s.mem := rfl
@[simp] theorem noStep_halted (s : State) : (noStep s).halted = s.halted := rfl
@[simp] theorem noStep_pcValid (s : State) : (noStep s).pcValid = s.pcValid := rfl
@[simp] theorem noStep_accesses (s : State) : (noStep s).accesses = [] := rfl
@[simp] theorem noStep_returned (s : State) : (noStep s).returned = .noStep := rfl
@[simp] theorem noStep_calls (s : State) : (noStep s).calls = s.calls := rfl
@[simp] theorem noStep_script (s : State) : (noStep s).script = s.script := rfl

@[simp] theorem notReset_pc (s : State) : (notReset s).pc = s.pc := rfl
@[simp] theorem notReset_sp (s : State) : (notReset s).sp = s.sp := rfl
@[simp] theorem notReset_a (s : State) : (notReset s).a = s.a := rfl
@[simp] theorem notReset_x (s : State) : (notReset s).x = s.x := rfl
@[simp] theorem notReset_y (s : State) : (notReset s).y = s.y := rfl
@[simp] theorem notReset_p (s : State) : (notReset s).p = s.p := rfl
@[simp] theorem notReset_mem (s : State) : (notReset s).mem = s.mem := rfl
@[simp] theorem notReset_halted (s : State) : (notReset s).halted = s.halted := rfl
@[simp] theorem notReset_pcValid (s : State) : (notReset s).pcValid = s.pcValid := rfl
@[simp] theorem notReset_accesses (s : State) : (notReset s).accesses = [] := rfl
@[simp] theorem notReset_returned (s : State) : (notReset s).returned = .notReset := rfl
@[simp] theorem notReset_calls (s : State) : (notReset s).calls = s.calls := rfl
@[simp] theorem notReset_script (s : State) : (notReset s).script = s.script := rfl

/-! The resolver reads a pointer at most: it changes nothing but the access record and the script. -/

@[simp] theorem resolve_pc (m : MemOperand) (s : State) : (resolve m s).state.pc = s.pc := by cases m <;> rfl
@[simp] theorem resolve_sp (m : MemOperand) (s : State) : (resolve m s).state.sp = s.sp := by cases m <;> rfl
@[simp] theorem resolve_a (m : MemOperand) (s : State) : (resolve m s).state.a = s.a := by cases m <;> rfl
@[simp] theorem resolve_x (m : MemOperand) (s : State) : (resolve m s).state.x = s.x := by cases m <;> rfl
@[simp] theorem resolve_y (m : MemOperand) (s : State) : (resolve m s).state.y = s.y := by cases m <;> rfl
@[simp] theorem resolve_p (m : MemOperand) (s : State) : (resolve m s).state.p = s.p := by cases m <;> rfl
@[simp] theorem resolve_mem (m : MemOperand) (s : State) : (resolve m s).state.mem = s.mem := by cases m <;> rfl
@[simp] theorem resolve_halted (m : MemOperand) (s : State) : (resolve m s).state.halted = s.halted := by cases m <;> rfl
@[simp] theorem resolve_pcValid (m : MemOperand) (s : State) : (resolve m s).state.pcValid = s.pcValid := by cases m <;> rfl
@[simp] theorem resolve_returned (m : MemOperand) (s : State) : (resolve m s).state.returned = s.returned := by cases m <;> rfl
@[simp] theorem resolve_calls (m : MemOperand) (s : State) : (resolve m s).state.calls = s.calls := by cases m <;> rfl

/-- A memory write in RAM, or none: what the bus did with it. -/
theorem busWrite_mem (ad : Addr) (v : Byte) (s : State) :
    (busWrite ad v s).mem = s.mem ∨ (busWrite ad v s).mem = Memory.write s.mem ad.toNat v := by
  unfold busWrite
  split
  · exact .inl rfl
  · exact .inr rfl

/-- On a plain-RAM bus a write is a memory write. -/
theorem busWrite_mem_ram {s : State} (ad : Addr) (v : Byte) (h : s.script = []) :
    (busWrite ad v s).mem = Memory.write s.mem ad.toNat v := by
  unfold busWrite
  rw [h]

/-- On a plain-RAM bus a read gives memory's byte. -/
theorem busRead_ram {s : State} (ad : Addr) (h : s.script = []) : (busRead ad s).1 = Memory.read s.mem ad.toNat := by
  unfold busRead
  rw [h]

/-- A read's answer depends on memory and the script alone. -/
theorem busRead_congr {s t : State} (ad : Addr) (hm : t.mem = s.mem) (hs : t.script = s.script) :
    (busRead ad t).1 = (busRead ad s).1 := by
  unfold busRead
  rw [hm, hs]

/-- A memory operand's resolver leaves a plain-RAM bus plain. -/
theorem resolve_script {s : State} (m : MemOperand) (h : s.script = []) : (resolve m s).state.script = [] := by
  cases m <;> simp [resolve, indexed, h]

/-- Construction followed by the first `reset()` is the reset state (10_state.md R39, 70_reset_and_hazards.md R241). -/
theorem reset_of_construct :
    resetCall (State.construct Config.initA Config.initX Config.initY [] [] []) = .next State.reset := rfl

end Sys2Proof.Machine
end

