-- ==== Sys2Proof/Laws/Ops.lean ====
section
/-! SUPPORT. Laws of the bus and the stack: what memory holds after each operation, and that each keeps it canonical. -/

namespace Sys2Proof.Machine

open Sys2Proof Sys2Proof.Laws

/-- A bus write changes no byte but the one written, on any bus. -/
theorem busWrite_read_other (a : Addr) (v : Byte) (s : State) {b : Nat} (h : b ≠ a.toNat) :
    Memory.read (busWrite a v s).mem b = Memory.read s.mem b := by
  rcases busWrite_mem a v s with h' | h' <;> rw [h']
  exact Memory.read_write_other _ _ h

/-- On a plain-RAM bus the byte written is there. -/
theorem busWrite_read_same {s : State} (a : Addr) (v : Byte) (h : s.script = []) (hw : Memory.wf s.mem = true) :
    Memory.read (busWrite a v s).mem a.toNat = v := by
  rw [busWrite_mem_ram _ _ h]; exact Memory.read_write_same _ _ hw

/-- Every bus write keeps memory canonical. -/
theorem busWrite_wf (a : Addr) (v : Byte) {s : State} (h : Memory.wf s.mem = true) :
    Memory.wf (busWrite a v s).mem = true := by
  rcases busWrite_mem a v s with h' | h' <;> rw [h']
  · exact h
  · exact Memory.wf_write _ _ h

/-- The stack's addresses lie in page 1 (spec/10_state.md R25). -/
theorem stackAddr_toNat (sp : Byte) : (stackAddr sp).toNat = 256 + sp.toNat := by revert sp; decide

theorem stackAddr_inj {a b : Byte} (h : (stackAddr a).toNat = (stackAddr b).toNat) : a = b := by
  rw [stackAddr_toNat, stackAddr_toNat] at h
  exact BitVec.eq_of_toNat_eq (by omega)

/-- A push changes no byte but the slot SP designates. -/
theorem push_read_other (v : Byte) (s : State) {b : Nat} (h : b ≠ (stackAddr s.sp).toNat) :
    Memory.read (push v s).mem b = Memory.read s.mem b := busWrite_read_other _ _ _ h

/-- On a plain-RAM bus the slot holds what was pushed. -/
theorem push_read_same {s : State} (v : Byte) (h : s.script = []) (hw : Memory.wf s.mem = true) :
    Memory.read (push v s).mem (stackAddr s.sp).toNat = v := busWrite_read_same _ _ h hw

theorem push_wf (v : Byte) {s : State} (h : Memory.wf s.mem = true) : Memory.wf (push v s).mem = true := busWrite_wf _ _ h

/-- On a plain-RAM bus a pull after a push gives the byte back. -/
theorem pull_push {s : State} (v : Byte) (h : s.script = []) (hw : Memory.wf s.mem = true) : (pull (push v s)).1 = v := by
  have hsp : s.sp - 1 + 1 = s.sp := by simp
  change (busRead (stackAddr (s.sp - 1 + 1)) { push v s with sp := s.sp - 1 + 1 }).1 = v
  rw [hsp, busRead_ram _ (by simp [h])]
  exact push_read_same v h hw

/-- A pushed word changes no byte but the two slots. -/
theorem pushWord_read_other (w : Addr) (s : State) {b : Nat} (h0 : b ≠ (stackAddr s.sp).toNat)
    (h1 : b ≠ (stackAddr (s.sp - 1)).toNat) : Memory.read (pushWord w s).mem b = Memory.read s.mem b := by
  change Memory.read (push (lo w) (push (hi w) s)).mem b = _
  rw [push_read_other _ _ (by simpa only [push_sp] using h1), push_read_other _ _ h0]

theorem pushWord_wf (w : Addr) {s : State} (h : Memory.wf s.mem = true) : Memory.wf (pushWord w s).mem = true :=
  push_wf _ (push_wf _ h)

/-- Entering a handler keeps memory canonical (60_exceptions.md R222). -/
theorem enterHandler_wf (ret : Addr) (q : Byte) (vec : Addr) {s : State} (h : Memory.wf s.mem = true) :
    Memory.wf (enterHandler ret q vec s).mem = true := by
  rw [enterHandler_mem]; exact push_wf _ (pushWord_wf _ h)

/-- Placing an instruction's bytes keeps memory canonical. -/
theorem placeBytes_wf (n w : Nat) (a : Addr) {m : Memory} (h : m.wf = true) : (placeBytes n w a m).wf = true := by
  induction n generalizing w a m with
  | zero => exact h
  | succ n ih => exact ih _ _ (Memory.wf_write _ _ h)

/-- Placing an instruction keeps memory canonical. -/
theorem withFetchWord_wf (s : State) (nbits w : Nat) (h : Memory.wf s.mem = true) :
    Memory.wf (s.withFetchWord nbits w).mem = true := placeBytes_wf _ _ _ h

/-- Memory after reset is canonical. -/
theorem reset_wf : Memory.wf State.reset.mem = true := rfl

/-- A word read from a plain-RAM bus (20_memory.md R42). -/
theorem busReadWord_toNat (a : Addr) {s : State} (h : s.script = []) :
    (busReadWord a s).1.toNat = (Memory.read s.mem a.toNat).toNat + 256 * (Memory.read s.mem (a + 1).toNat).toNat := by
  change (word (busRead (a + 1) (busRead a s).2).1 (busRead a s).1).toNat = _
  rw [word_toNat, busRead_ram _ h, busRead_ram _ (by simp [h])]
  rfl

/-- A page is crossed exactly when the page numbers differ (40_addressing.md R86, R88). -/
theorem pageCrossed_iff (base ea : Addr) : pageCrossed base ea = true ↔ base.toNat / 256 ≠ ea.toNat / 256 := by
  rw [pageCrossed, bne_iff_ne, ne_eq, ← BitVec.toNat_inj, hi_toNat, hi_toNat]

/-- A branch whose condition holds. -/
theorem branchClass_taken (op off : Byte) (s : State) :
    branchClass op true off s =
      .next { s with
        pc := (resolveRelative off s).1
        returned := .cycles (baseCycles op + 1 + if (resolveRelative off s).2 then 1 else 0) } := rfl

/-- A branch whose condition fails. -/
theorem branchClass_not_taken (op off : Byte) (s : State) :
    branchClass op false off s = .next (retire op false s) := rfl

end Sys2Proof.Machine
end

