-- ==== Sys2Proof/Laws/PerInstr.lean ====
section
/-! SUPPORT. The families of LAWS.json: what is said of every instruction as syntax, one lemma for each constructor. -/

namespace Sys2Proof.Laws

open Sys2Proof

/-- Decoding the bytes the encoder writes gives the instruction back and leaves the bytes after them. -/
def RoundTrip.Statement (i : Instr) : Prop := ∀ rest, decode (encode i ++ rest) = .ok (i, rest)

/-- The encoder writes as many bytes as the table gives the opcode (30_encoding.md R62), and the table's row is well
formed. -/
def TableRow.Statement (i : Instr) : Prop :=
  (encode i).length = (descriptor i.opcode).size ∧ (descriptor i.opcode).wellFormed = true

theorem RoundTrip.brk : RoundTrip.Statement .brk := fun _ => rfl
theorem RoundTrip.oraIndX (z : Byte) : RoundTrip.Statement (.oraIndX z) := fun _ => rfl
theorem RoundTrip.jam02 : RoundTrip.Statement .jam02 := fun _ => rfl
theorem RoundTrip.sloIndX (z : Byte) : RoundTrip.Statement (.sloIndX z) := fun _ => rfl
theorem RoundTrip.nopZp04 (z : Byte) : RoundTrip.Statement (.nopZp04 z) := fun _ => rfl
theorem RoundTrip.oraZp (z : Byte) : RoundTrip.Statement (.oraZp z) := fun _ => rfl
theorem RoundTrip.aslZp (z : Byte) : RoundTrip.Statement (.aslZp z) := fun _ => rfl
theorem RoundTrip.sloZp (z : Byte) : RoundTrip.Statement (.sloZp z) := fun _ => rfl
theorem RoundTrip.php : RoundTrip.Statement .php := fun _ => rfl
theorem RoundTrip.oraImm (v : Byte) : RoundTrip.Statement (.oraImm v) := fun _ => rfl
theorem RoundTrip.aslA : RoundTrip.Statement .aslA := fun _ => rfl
theorem RoundTrip.anc0B : RoundTrip.Statement .anc0B := fun _ => rfl
theorem RoundTrip.nopAbs0C (w : Addr) : RoundTrip.Statement (.nopAbs0C w) := decode_withWord 0x0C .nopAbs0C w rfl
theorem RoundTrip.oraAbs (w : Addr) : RoundTrip.Statement (.oraAbs w) := decode_withWord 0x0D .oraAbs w rfl
theorem RoundTrip.aslAbs (w : Addr) : RoundTrip.Statement (.aslAbs w) := decode_withWord 0x0E .aslAbs w rfl
theorem RoundTrip.sloAbs (w : Addr) : RoundTrip.Statement (.sloAbs w) := decode_withWord 0x0F .sloAbs w rfl
theorem RoundTrip.bpl (off : Byte) : RoundTrip.Statement (.bpl off) := fun _ => rfl
theorem RoundTrip.oraIndY (z : Byte) : RoundTrip.Statement (.oraIndY z) := fun _ => rfl
theorem RoundTrip.jam12 : RoundTrip.Statement .jam12 := fun _ => rfl
theorem RoundTrip.sloIndY (z : Byte) : RoundTrip.Statement (.sloIndY z) := fun _ => rfl
theorem RoundTrip.nopZpX14 (z : Byte) : RoundTrip.Statement (.nopZpX14 z) := fun _ => rfl
theorem RoundTrip.oraZpX (z : Byte) : RoundTrip.Statement (.oraZpX z) := fun _ => rfl
theorem RoundTrip.aslZpX (z : Byte) : RoundTrip.Statement (.aslZpX z) := fun _ => rfl
theorem RoundTrip.sloZpX (z : Byte) : RoundTrip.Statement (.sloZpX z) := fun _ => rfl
theorem RoundTrip.clc : RoundTrip.Statement .clc := fun _ => rfl
theorem RoundTrip.oraAbsY (w : Addr) : RoundTrip.Statement (.oraAbsY w) := decode_withWord 0x19 .oraAbsY w rfl
theorem RoundTrip.nopImp1A : RoundTrip.Statement .nopImp1A := fun _ => rfl
theorem RoundTrip.sloAbsY (w : Addr) : RoundTrip.Statement (.sloAbsY w) := decode_withWord 0x1B .sloAbsY w rfl
theorem RoundTrip.nopAbsX1C (w : Addr) : RoundTrip.Statement (.nopAbsX1C w) := decode_withWord 0x1C .nopAbsX1C w rfl
theorem RoundTrip.oraAbsX (w : Addr) : RoundTrip.Statement (.oraAbsX w) := decode_withWord 0x1D .oraAbsX w rfl
theorem RoundTrip.aslAbsX (w : Addr) : RoundTrip.Statement (.aslAbsX w) := decode_withWord 0x1E .aslAbsX w rfl
theorem RoundTrip.sloAbsX (w : Addr) : RoundTrip.Statement (.sloAbsX w) := decode_withWord 0x1F .sloAbsX w rfl
theorem RoundTrip.jsr (w : Addr) : RoundTrip.Statement (.jsr w) := decode_withWord 0x20 .jsr w rfl
theorem RoundTrip.andIndX (z : Byte) : RoundTrip.Statement (.andIndX z) := fun _ => rfl
theorem RoundTrip.jam22 : RoundTrip.Statement .jam22 := fun _ => rfl
theorem RoundTrip.rlaIndX (z : Byte) : RoundTrip.Statement (.rlaIndX z) := fun _ => rfl
theorem RoundTrip.bitZp (z : Byte) : RoundTrip.Statement (.bitZp z) := fun _ => rfl
theorem RoundTrip.andZp (z : Byte) : RoundTrip.Statement (.andZp z) := fun _ => rfl
theorem RoundTrip.rolZp (z : Byte) : RoundTrip.Statement (.rolZp z) := fun _ => rfl
theorem RoundTrip.rlaZp (z : Byte) : RoundTrip.Statement (.rlaZp z) := fun _ => rfl
theorem RoundTrip.plp : RoundTrip.Statement .plp := fun _ => rfl
theorem RoundTrip.andImm (v : Byte) : RoundTrip.Statement (.andImm v) := fun _ => rfl
theorem RoundTrip.rolA : RoundTrip.Statement .rolA := fun _ => rfl
theorem RoundTrip.anc2B : RoundTrip.Statement .anc2B := fun _ => rfl
theorem RoundTrip.bitAbs (w : Addr) : RoundTrip.Statement (.bitAbs w) := decode_withWord 0x2C .bitAbs w rfl
theorem RoundTrip.andAbs (w : Addr) : RoundTrip.Statement (.andAbs w) := decode_withWord 0x2D .andAbs w rfl
theorem RoundTrip.rolAbs (w : Addr) : RoundTrip.Statement (.rolAbs w) := decode_withWord 0x2E .rolAbs w rfl
theorem RoundTrip.rlaAbs (w : Addr) : RoundTrip.Statement (.rlaAbs w) := decode_withWord 0x2F .rlaAbs w rfl
theorem RoundTrip.bmi (off : Byte) : RoundTrip.Statement (.bmi off) := fun _ => rfl
theorem RoundTrip.andIndY (z : Byte) : RoundTrip.Statement (.andIndY z) := fun _ => rfl
theorem RoundTrip.jam32 : RoundTrip.Statement .jam32 := fun _ => rfl
theorem RoundTrip.rlaIndY (z : Byte) : RoundTrip.Statement (.rlaIndY z) := fun _ => rfl
theorem RoundTrip.nopZpX34 (z : Byte) : RoundTrip.Statement (.nopZpX34 z) := fun _ => rfl
theorem RoundTrip.andZpX (z : Byte) : RoundTrip.Statement (.andZpX z) := fun _ => rfl
theorem RoundTrip.rolZpX (z : Byte) : RoundTrip.Statement (.rolZpX z) := fun _ => rfl
theorem RoundTrip.rlaZpX (z : Byte) : RoundTrip.Statement (.rlaZpX z) := fun _ => rfl
theorem RoundTrip.sec : RoundTrip.Statement .sec := fun _ => rfl
theorem RoundTrip.andAbsY (w : Addr) : RoundTrip.Statement (.andAbsY w) := decode_withWord 0x39 .andAbsY w rfl
theorem RoundTrip.nopImp3A : RoundTrip.Statement .nopImp3A := fun _ => rfl
theorem RoundTrip.rlaAbsY (w : Addr) : RoundTrip.Statement (.rlaAbsY w) := decode_withWord 0x3B .rlaAbsY w rfl
theorem RoundTrip.nopAbsX3C (w : Addr) : RoundTrip.Statement (.nopAbsX3C w) := decode_withWord 0x3C .nopAbsX3C w rfl
theorem RoundTrip.andAbsX (w : Addr) : RoundTrip.Statement (.andAbsX w) := decode_withWord 0x3D .andAbsX w rfl
theorem RoundTrip.rolAbsX (w : Addr) : RoundTrip.Statement (.rolAbsX w) := decode_withWord 0x3E .rolAbsX w rfl
theorem RoundTrip.rlaAbsX (w : Addr) : RoundTrip.Statement (.rlaAbsX w) := decode_withWord 0x3F .rlaAbsX w rfl
theorem RoundTrip.rti : RoundTrip.Statement .rti := fun _ => rfl
theorem RoundTrip.eorIndX (z : Byte) : RoundTrip.Statement (.eorIndX z) := fun _ => rfl
theorem RoundTrip.jam42 : RoundTrip.Statement .jam42 := fun _ => rfl
theorem RoundTrip.sreIndX (z : Byte) : RoundTrip.Statement (.sreIndX z) := fun _ => rfl
theorem RoundTrip.nopZp44 (z : Byte) : RoundTrip.Statement (.nopZp44 z) := fun _ => rfl
theorem RoundTrip.eorZp (z : Byte) : RoundTrip.Statement (.eorZp z) := fun _ => rfl
theorem RoundTrip.lsrZp (z : Byte) : RoundTrip.Statement (.lsrZp z) := fun _ => rfl
theorem RoundTrip.sreZp (z : Byte) : RoundTrip.Statement (.sreZp z) := fun _ => rfl
theorem RoundTrip.pha : RoundTrip.Statement .pha := fun _ => rfl
theorem RoundTrip.eorImm (v : Byte) : RoundTrip.Statement (.eorImm v) := fun _ => rfl
theorem RoundTrip.lsrA : RoundTrip.Statement .lsrA := fun _ => rfl
theorem RoundTrip.alr : RoundTrip.Statement .alr := fun _ => rfl
theorem RoundTrip.jmpAbs (w : Addr) : RoundTrip.Statement (.jmpAbs w) := decode_withWord 0x4C .jmpAbs w rfl
theorem RoundTrip.eorAbs (w : Addr) : RoundTrip.Statement (.eorAbs w) := decode_withWord 0x4D .eorAbs w rfl
theorem RoundTrip.lsrAbs (w : Addr) : RoundTrip.Statement (.lsrAbs w) := decode_withWord 0x4E .lsrAbs w rfl
theorem RoundTrip.sreAbs (w : Addr) : RoundTrip.Statement (.sreAbs w) := decode_withWord 0x4F .sreAbs w rfl
theorem RoundTrip.bvc (off : Byte) : RoundTrip.Statement (.bvc off) := fun _ => rfl
theorem RoundTrip.eorIndY (z : Byte) : RoundTrip.Statement (.eorIndY z) := fun _ => rfl
theorem RoundTrip.jam52 : RoundTrip.Statement .jam52 := fun _ => rfl
theorem RoundTrip.sreIndY (z : Byte) : RoundTrip.Statement (.sreIndY z) := fun _ => rfl
theorem RoundTrip.nopZpX54 (z : Byte) : RoundTrip.Statement (.nopZpX54 z) := fun _ => rfl
theorem RoundTrip.eorZpX (z : Byte) : RoundTrip.Statement (.eorZpX z) := fun _ => rfl
theorem RoundTrip.lsrZpX (z : Byte) : RoundTrip.Statement (.lsrZpX z) := fun _ => rfl
theorem RoundTrip.sreZpX (z : Byte) : RoundTrip.Statement (.sreZpX z) := fun _ => rfl
theorem RoundTrip.cli : RoundTrip.Statement .cli := fun _ => rfl
theorem RoundTrip.eorAbsY (w : Addr) : RoundTrip.Statement (.eorAbsY w) := decode_withWord 0x59 .eorAbsY w rfl
theorem RoundTrip.nopImp5A : RoundTrip.Statement .nopImp5A := fun _ => rfl
theorem RoundTrip.sreAbsY (w : Addr) : RoundTrip.Statement (.sreAbsY w) := decode_withWord 0x5B .sreAbsY w rfl
theorem RoundTrip.nopAbsX5C (w : Addr) : RoundTrip.Statement (.nopAbsX5C w) := decode_withWord 0x5C .nopAbsX5C w rfl
theorem RoundTrip.eorAbsX (w : Addr) : RoundTrip.Statement (.eorAbsX w) := decode_withWord 0x5D .eorAbsX w rfl
theorem RoundTrip.lsrAbsX (w : Addr) : RoundTrip.Statement (.lsrAbsX w) := decode_withWord 0x5E .lsrAbsX w rfl
theorem RoundTrip.sreAbsX (w : Addr) : RoundTrip.Statement (.sreAbsX w) := decode_withWord 0x5F .sreAbsX w rfl
theorem RoundTrip.rts : RoundTrip.Statement .rts := fun _ => rfl
theorem RoundTrip.adcIndX (z : Byte) : RoundTrip.Statement (.adcIndX z) := fun _ => rfl
theorem RoundTrip.jam62 : RoundTrip.Statement .jam62 := fun _ => rfl
theorem RoundTrip.rraIndX (z : Byte) : RoundTrip.Statement (.rraIndX z) := fun _ => rfl
theorem RoundTrip.nopZp64 (z : Byte) : RoundTrip.Statement (.nopZp64 z) := fun _ => rfl
theorem RoundTrip.adcZp (z : Byte) : RoundTrip.Statement (.adcZp z) := fun _ => rfl
theorem RoundTrip.rorZp (z : Byte) : RoundTrip.Statement (.rorZp z) := fun _ => rfl
theorem RoundTrip.rraZp (z : Byte) : RoundTrip.Statement (.rraZp z) := fun _ => rfl
theorem RoundTrip.pla : RoundTrip.Statement .pla := fun _ => rfl
theorem RoundTrip.adcImm (v : Byte) : RoundTrip.Statement (.adcImm v) := fun _ => rfl
theorem RoundTrip.rorA : RoundTrip.Statement .rorA := fun _ => rfl
theorem RoundTrip.arr : RoundTrip.Statement .arr := fun _ => rfl
theorem RoundTrip.jmpInd (w : Addr) : RoundTrip.Statement (.jmpInd w) := decode_withWord 0x6C .jmpInd w rfl
theorem RoundTrip.adcAbs (w : Addr) : RoundTrip.Statement (.adcAbs w) := decode_withWord 0x6D .adcAbs w rfl
theorem RoundTrip.rorAbs (w : Addr) : RoundTrip.Statement (.rorAbs w) := decode_withWord 0x6E .rorAbs w rfl
theorem RoundTrip.rraAbs (w : Addr) : RoundTrip.Statement (.rraAbs w) := decode_withWord 0x6F .rraAbs w rfl
theorem RoundTrip.bvs (off : Byte) : RoundTrip.Statement (.bvs off) := fun _ => rfl
theorem RoundTrip.adcIndY (z : Byte) : RoundTrip.Statement (.adcIndY z) := fun _ => rfl
theorem RoundTrip.jam72 : RoundTrip.Statement .jam72 := fun _ => rfl
theorem RoundTrip.rraIndY (z : Byte) : RoundTrip.Statement (.rraIndY z) := fun _ => rfl
theorem RoundTrip.nopZpX74 (z : Byte) : RoundTrip.Statement (.nopZpX74 z) := fun _ => rfl
theorem RoundTrip.adcZpX (z : Byte) : RoundTrip.Statement (.adcZpX z) := fun _ => rfl
theorem RoundTrip.rorZpX (z : Byte) : RoundTrip.Statement (.rorZpX z) := fun _ => rfl
theorem RoundTrip.rraZpX (z : Byte) : RoundTrip.Statement (.rraZpX z) := fun _ => rfl
theorem RoundTrip.sei : RoundTrip.Statement .sei := fun _ => rfl
theorem RoundTrip.adcAbsY (w : Addr) : RoundTrip.Statement (.adcAbsY w) := decode_withWord 0x79 .adcAbsY w rfl
theorem RoundTrip.nopImp7A : RoundTrip.Statement .nopImp7A := fun _ => rfl
theorem RoundTrip.rraAbsY (w : Addr) : RoundTrip.Statement (.rraAbsY w) := decode_withWord 0x7B .rraAbsY w rfl
theorem RoundTrip.nopAbsX7C (w : Addr) : RoundTrip.Statement (.nopAbsX7C w) := decode_withWord 0x7C .nopAbsX7C w rfl
theorem RoundTrip.adcAbsX (w : Addr) : RoundTrip.Statement (.adcAbsX w) := decode_withWord 0x7D .adcAbsX w rfl
theorem RoundTrip.rorAbsX (w : Addr) : RoundTrip.Statement (.rorAbsX w) := decode_withWord 0x7E .rorAbsX w rfl
theorem RoundTrip.rraAbsX (w : Addr) : RoundTrip.Statement (.rraAbsX w) := decode_withWord 0x7F .rraAbsX w rfl
theorem RoundTrip.nopImm80 (v : Byte) : RoundTrip.Statement (.nopImm80 v) := fun _ => rfl
theorem RoundTrip.staIndX (z : Byte) : RoundTrip.Statement (.staIndX z) := fun _ => rfl
theorem RoundTrip.nopImm82 (v : Byte) : RoundTrip.Statement (.nopImm82 v) := fun _ => rfl
theorem RoundTrip.saxIndX (z : Byte) : RoundTrip.Statement (.saxIndX z) := fun _ => rfl
theorem RoundTrip.styZp (z : Byte) : RoundTrip.Statement (.styZp z) := fun _ => rfl
theorem RoundTrip.staZp (z : Byte) : RoundTrip.Statement (.staZp z) := fun _ => rfl
theorem RoundTrip.stxZp (z : Byte) : RoundTrip.Statement (.stxZp z) := fun _ => rfl
theorem RoundTrip.saxZp (z : Byte) : RoundTrip.Statement (.saxZp z) := fun _ => rfl
theorem RoundTrip.dey : RoundTrip.Statement .dey := fun _ => rfl
theorem RoundTrip.nopImm89 (v : Byte) : RoundTrip.Statement (.nopImm89 v) := fun _ => rfl
theorem RoundTrip.txa : RoundTrip.Statement .txa := fun _ => rfl
theorem RoundTrip.xaa : RoundTrip.Statement .xaa := fun _ => rfl
theorem RoundTrip.styAbs (w : Addr) : RoundTrip.Statement (.styAbs w) := decode_withWord 0x8C .styAbs w rfl
theorem RoundTrip.staAbs (w : Addr) : RoundTrip.Statement (.staAbs w) := decode_withWord 0x8D .staAbs w rfl
theorem RoundTrip.stxAbs (w : Addr) : RoundTrip.Statement (.stxAbs w) := decode_withWord 0x8E .stxAbs w rfl
theorem RoundTrip.saxAbs (w : Addr) : RoundTrip.Statement (.saxAbs w) := decode_withWord 0x8F .saxAbs w rfl
theorem RoundTrip.bcc (off : Byte) : RoundTrip.Statement (.bcc off) := fun _ => rfl
theorem RoundTrip.staIndY (z : Byte) : RoundTrip.Statement (.staIndY z) := fun _ => rfl
theorem RoundTrip.jam92 : RoundTrip.Statement .jam92 := fun _ => rfl
theorem RoundTrip.sha93 : RoundTrip.Statement .sha93 := fun _ => rfl
theorem RoundTrip.styZpX (z : Byte) : RoundTrip.Statement (.styZpX z) := fun _ => rfl
theorem RoundTrip.staZpX (z : Byte) : RoundTrip.Statement (.staZpX z) := fun _ => rfl
theorem RoundTrip.stxZpY (z : Byte) : RoundTrip.Statement (.stxZpY z) := fun _ => rfl
theorem RoundTrip.saxZpY (z : Byte) : RoundTrip.Statement (.saxZpY z) := fun _ => rfl
theorem RoundTrip.tya : RoundTrip.Statement .tya := fun _ => rfl
theorem RoundTrip.staAbsY (w : Addr) : RoundTrip.Statement (.staAbsY w) := decode_withWord 0x99 .staAbsY w rfl
theorem RoundTrip.txs : RoundTrip.Statement .txs := fun _ => rfl
theorem RoundTrip.tas : RoundTrip.Statement .tas := fun _ => rfl
theorem RoundTrip.shy : RoundTrip.Statement .shy := fun _ => rfl
theorem RoundTrip.staAbsX (w : Addr) : RoundTrip.Statement (.staAbsX w) := decode_withWord 0x9D .staAbsX w rfl
theorem RoundTrip.shx : RoundTrip.Statement .shx := fun _ => rfl
theorem RoundTrip.sha9F : RoundTrip.Statement .sha9F := fun _ => rfl
theorem RoundTrip.ldyImm (v : Byte) : RoundTrip.Statement (.ldyImm v) := fun _ => rfl
theorem RoundTrip.ldaIndX (z : Byte) : RoundTrip.Statement (.ldaIndX z) := fun _ => rfl
theorem RoundTrip.ldxImm (v : Byte) : RoundTrip.Statement (.ldxImm v) := fun _ => rfl
theorem RoundTrip.laxIndX (z : Byte) : RoundTrip.Statement (.laxIndX z) := fun _ => rfl
theorem RoundTrip.ldyZp (z : Byte) : RoundTrip.Statement (.ldyZp z) := fun _ => rfl
theorem RoundTrip.ldaZp (z : Byte) : RoundTrip.Statement (.ldaZp z) := fun _ => rfl
theorem RoundTrip.ldxZp (z : Byte) : RoundTrip.Statement (.ldxZp z) := fun _ => rfl
theorem RoundTrip.laxZp (z : Byte) : RoundTrip.Statement (.laxZp z) := fun _ => rfl
theorem RoundTrip.tay : RoundTrip.Statement .tay := fun _ => rfl
theorem RoundTrip.ldaImm (v : Byte) : RoundTrip.Statement (.ldaImm v) := fun _ => rfl
theorem RoundTrip.tax : RoundTrip.Statement .tax := fun _ => rfl
theorem RoundTrip.lxa : RoundTrip.Statement .lxa := fun _ => rfl
theorem RoundTrip.ldyAbs (w : Addr) : RoundTrip.Statement (.ldyAbs w) := decode_withWord 0xAC .ldyAbs w rfl
theorem RoundTrip.ldaAbs (w : Addr) : RoundTrip.Statement (.ldaAbs w) := decode_withWord 0xAD .ldaAbs w rfl
theorem RoundTrip.ldxAbs (w : Addr) : RoundTrip.Statement (.ldxAbs w) := decode_withWord 0xAE .ldxAbs w rfl
theorem RoundTrip.laxAbs (w : Addr) : RoundTrip.Statement (.laxAbs w) := decode_withWord 0xAF .laxAbs w rfl
theorem RoundTrip.bcs (off : Byte) : RoundTrip.Statement (.bcs off) := fun _ => rfl
theorem RoundTrip.ldaIndY (z : Byte) : RoundTrip.Statement (.ldaIndY z) := fun _ => rfl
theorem RoundTrip.jamB2 : RoundTrip.Statement .jamB2 := fun _ => rfl
theorem RoundTrip.laxIndY (z : Byte) : RoundTrip.Statement (.laxIndY z) := fun _ => rfl
theorem RoundTrip.ldyZpX (z : Byte) : RoundTrip.Statement (.ldyZpX z) := fun _ => rfl
theorem RoundTrip.ldaZpX (z : Byte) : RoundTrip.Statement (.ldaZpX z) := fun _ => rfl
theorem RoundTrip.ldxZpY (z : Byte) : RoundTrip.Statement (.ldxZpY z) := fun _ => rfl
theorem RoundTrip.laxZpY (z : Byte) : RoundTrip.Statement (.laxZpY z) := fun _ => rfl
theorem RoundTrip.clv : RoundTrip.Statement .clv := fun _ => rfl
theorem RoundTrip.ldaAbsY (w : Addr) : RoundTrip.Statement (.ldaAbsY w) := decode_withWord 0xB9 .ldaAbsY w rfl
theorem RoundTrip.tsx : RoundTrip.Statement .tsx := fun _ => rfl
theorem RoundTrip.las : RoundTrip.Statement .las := fun _ => rfl
theorem RoundTrip.ldyAbsX (w : Addr) : RoundTrip.Statement (.ldyAbsX w) := decode_withWord 0xBC .ldyAbsX w rfl
theorem RoundTrip.ldaAbsX (w : Addr) : RoundTrip.Statement (.ldaAbsX w) := decode_withWord 0xBD .ldaAbsX w rfl
theorem RoundTrip.ldxAbsY (w : Addr) : RoundTrip.Statement (.ldxAbsY w) := decode_withWord 0xBE .ldxAbsY w rfl
theorem RoundTrip.laxAbsY (w : Addr) : RoundTrip.Statement (.laxAbsY w) := decode_withWord 0xBF .laxAbsY w rfl
theorem RoundTrip.cpyImm (v : Byte) : RoundTrip.Statement (.cpyImm v) := fun _ => rfl
theorem RoundTrip.cmpIndX (z : Byte) : RoundTrip.Statement (.cmpIndX z) := fun _ => rfl
theorem RoundTrip.nopImmC2 (v : Byte) : RoundTrip.Statement (.nopImmC2 v) := fun _ => rfl
theorem RoundTrip.dcpIndX (z : Byte) : RoundTrip.Statement (.dcpIndX z) := fun _ => rfl
theorem RoundTrip.cpyZp (z : Byte) : RoundTrip.Statement (.cpyZp z) := fun _ => rfl
theorem RoundTrip.cmpZp (z : Byte) : RoundTrip.Statement (.cmpZp z) := fun _ => rfl
theorem RoundTrip.decZp (z : Byte) : RoundTrip.Statement (.decZp z) := fun _ => rfl
theorem RoundTrip.dcpZp (z : Byte) : RoundTrip.Statement (.dcpZp z) := fun _ => rfl
theorem RoundTrip.iny : RoundTrip.Statement .iny := fun _ => rfl
theorem RoundTrip.cmpImm (v : Byte) : RoundTrip.Statement (.cmpImm v) := fun _ => rfl
theorem RoundTrip.dex : RoundTrip.Statement .dex := fun _ => rfl
theorem RoundTrip.sbx : RoundTrip.Statement .sbx := fun _ => rfl
theorem RoundTrip.cpyAbs (w : Addr) : RoundTrip.Statement (.cpyAbs w) := decode_withWord 0xCC .cpyAbs w rfl
theorem RoundTrip.cmpAbs (w : Addr) : RoundTrip.Statement (.cmpAbs w) := decode_withWord 0xCD .cmpAbs w rfl
theorem RoundTrip.decAbs (w : Addr) : RoundTrip.Statement (.decAbs w) := decode_withWord 0xCE .decAbs w rfl
theorem RoundTrip.dcpAbs (w : Addr) : RoundTrip.Statement (.dcpAbs w) := decode_withWord 0xCF .dcpAbs w rfl
theorem RoundTrip.bne (off : Byte) : RoundTrip.Statement (.bne off) := fun _ => rfl
theorem RoundTrip.cmpIndY (z : Byte) : RoundTrip.Statement (.cmpIndY z) := fun _ => rfl
theorem RoundTrip.jamD2 : RoundTrip.Statement .jamD2 := fun _ => rfl
theorem RoundTrip.dcpIndY (z : Byte) : RoundTrip.Statement (.dcpIndY z) := fun _ => rfl
theorem RoundTrip.nopZpXD4 (z : Byte) : RoundTrip.Statement (.nopZpXD4 z) := fun _ => rfl
theorem RoundTrip.cmpZpX (z : Byte) : RoundTrip.Statement (.cmpZpX z) := fun _ => rfl
theorem RoundTrip.decZpX (z : Byte) : RoundTrip.Statement (.decZpX z) := fun _ => rfl
theorem RoundTrip.dcpZpX (z : Byte) : RoundTrip.Statement (.dcpZpX z) := fun _ => rfl
theorem RoundTrip.cld : RoundTrip.Statement .cld := fun _ => rfl
theorem RoundTrip.cmpAbsY (w : Addr) : RoundTrip.Statement (.cmpAbsY w) := decode_withWord 0xD9 .cmpAbsY w rfl
theorem RoundTrip.nopImpDA : RoundTrip.Statement .nopImpDA := fun _ => rfl
theorem RoundTrip.dcpAbsY (w : Addr) : RoundTrip.Statement (.dcpAbsY w) := decode_withWord 0xDB .dcpAbsY w rfl
theorem RoundTrip.nopAbsXDC (w : Addr) : RoundTrip.Statement (.nopAbsXDC w) := decode_withWord 0xDC .nopAbsXDC w rfl
theorem RoundTrip.cmpAbsX (w : Addr) : RoundTrip.Statement (.cmpAbsX w) := decode_withWord 0xDD .cmpAbsX w rfl
theorem RoundTrip.decAbsX (w : Addr) : RoundTrip.Statement (.decAbsX w) := decode_withWord 0xDE .decAbsX w rfl
theorem RoundTrip.dcpAbsX (w : Addr) : RoundTrip.Statement (.dcpAbsX w) := decode_withWord 0xDF .dcpAbsX w rfl
theorem RoundTrip.cpxImm (v : Byte) : RoundTrip.Statement (.cpxImm v) := fun _ => rfl
theorem RoundTrip.sbcIndX (z : Byte) : RoundTrip.Statement (.sbcIndX z) := fun _ => rfl
theorem RoundTrip.nopImmE2 (v : Byte) : RoundTrip.Statement (.nopImmE2 v) := fun _ => rfl
theorem RoundTrip.isbIndX (z : Byte) : RoundTrip.Statement (.isbIndX z) := fun _ => rfl
theorem RoundTrip.cpxZp (z : Byte) : RoundTrip.Statement (.cpxZp z) := fun _ => rfl
theorem RoundTrip.sbcZp (z : Byte) : RoundTrip.Statement (.sbcZp z) := fun _ => rfl
theorem RoundTrip.incZp (z : Byte) : RoundTrip.Statement (.incZp z) := fun _ => rfl
theorem RoundTrip.isbZp (z : Byte) : RoundTrip.Statement (.isbZp z) := fun _ => rfl
theorem RoundTrip.inx : RoundTrip.Statement .inx := fun _ => rfl
theorem RoundTrip.sbcImm (v : Byte) : RoundTrip.Statement (.sbcImm v) := fun _ => rfl
theorem RoundTrip.nop : RoundTrip.Statement .nop := fun _ => rfl
theorem RoundTrip.sbcImmEB (v : Byte) : RoundTrip.Statement (.sbcImmEB v) := fun _ => rfl
theorem RoundTrip.cpxAbs (w : Addr) : RoundTrip.Statement (.cpxAbs w) := decode_withWord 0xEC .cpxAbs w rfl
theorem RoundTrip.sbcAbs (w : Addr) : RoundTrip.Statement (.sbcAbs w) := decode_withWord 0xED .sbcAbs w rfl
theorem RoundTrip.incAbs (w : Addr) : RoundTrip.Statement (.incAbs w) := decode_withWord 0xEE .incAbs w rfl
theorem RoundTrip.isbAbs (w : Addr) : RoundTrip.Statement (.isbAbs w) := decode_withWord 0xEF .isbAbs w rfl
theorem RoundTrip.beq (off : Byte) : RoundTrip.Statement (.beq off) := fun _ => rfl
theorem RoundTrip.sbcIndY (z : Byte) : RoundTrip.Statement (.sbcIndY z) := fun _ => rfl
theorem RoundTrip.jamF2 : RoundTrip.Statement .jamF2 := fun _ => rfl
theorem RoundTrip.isbIndY (z : Byte) : RoundTrip.Statement (.isbIndY z) := fun _ => rfl
theorem RoundTrip.nopZpXF4 (z : Byte) : RoundTrip.Statement (.nopZpXF4 z) := fun _ => rfl
theorem RoundTrip.sbcZpX (z : Byte) : RoundTrip.Statement (.sbcZpX z) := fun _ => rfl
theorem RoundTrip.incZpX (z : Byte) : RoundTrip.Statement (.incZpX z) := fun _ => rfl
theorem RoundTrip.isbZpX (z : Byte) : RoundTrip.Statement (.isbZpX z) := fun _ => rfl
theorem RoundTrip.sed : RoundTrip.Statement .sed := fun _ => rfl
theorem RoundTrip.sbcAbsY (w : Addr) : RoundTrip.Statement (.sbcAbsY w) := decode_withWord 0xF9 .sbcAbsY w rfl
theorem RoundTrip.nopImpFA : RoundTrip.Statement .nopImpFA := fun _ => rfl
theorem RoundTrip.isbAbsY (w : Addr) : RoundTrip.Statement (.isbAbsY w) := decode_withWord 0xFB .isbAbsY w rfl
theorem RoundTrip.nopAbsXFC (w : Addr) : RoundTrip.Statement (.nopAbsXFC w) := decode_withWord 0xFC .nopAbsXFC w rfl
theorem RoundTrip.sbcAbsX (w : Addr) : RoundTrip.Statement (.sbcAbsX w) := decode_withWord 0xFD .sbcAbsX w rfl
theorem RoundTrip.incAbsX (w : Addr) : RoundTrip.Statement (.incAbsX w) := decode_withWord 0xFE .incAbsX w rfl
theorem RoundTrip.isbAbsX (w : Addr) : RoundTrip.Statement (.isbAbsX w) := decode_withWord 0xFF .isbAbsX w rfl

theorem TableRow.brk : TableRow.Statement .brk := tableRow_of 0x00 rfl rfl rfl
theorem TableRow.oraIndX (z : Byte) : TableRow.Statement (.oraIndX z) := tableRow_of 0x01 rfl rfl rfl
theorem TableRow.jam02 : TableRow.Statement .jam02 := tableRow_of 0x02 rfl rfl rfl
theorem TableRow.sloIndX (z : Byte) : TableRow.Statement (.sloIndX z) := tableRow_of 0x03 rfl rfl rfl
theorem TableRow.nopZp04 (z : Byte) : TableRow.Statement (.nopZp04 z) := tableRow_of 0x04 rfl rfl rfl
theorem TableRow.oraZp (z : Byte) : TableRow.Statement (.oraZp z) := tableRow_of 0x05 rfl rfl rfl
theorem TableRow.aslZp (z : Byte) : TableRow.Statement (.aslZp z) := tableRow_of 0x06 rfl rfl rfl
theorem TableRow.sloZp (z : Byte) : TableRow.Statement (.sloZp z) := tableRow_of 0x07 rfl rfl rfl
theorem TableRow.php : TableRow.Statement .php := tableRow_of 0x08 rfl rfl rfl
theorem TableRow.oraImm (v : Byte) : TableRow.Statement (.oraImm v) := tableRow_of 0x09 rfl rfl rfl
theorem TableRow.aslA : TableRow.Statement .aslA := tableRow_of 0x0A rfl rfl rfl
theorem TableRow.anc0B : TableRow.Statement .anc0B := tableRow_of 0x0B rfl rfl rfl
theorem TableRow.nopAbs0C (w : Addr) : TableRow.Statement (.nopAbs0C w) := tableRow_of 0x0C rfl rfl rfl
theorem TableRow.oraAbs (w : Addr) : TableRow.Statement (.oraAbs w) := tableRow_of 0x0D rfl rfl rfl
theorem TableRow.aslAbs (w : Addr) : TableRow.Statement (.aslAbs w) := tableRow_of 0x0E rfl rfl rfl
theorem TableRow.sloAbs (w : Addr) : TableRow.Statement (.sloAbs w) := tableRow_of 0x0F rfl rfl rfl
theorem TableRow.bpl (off : Byte) : TableRow.Statement (.bpl off) := tableRow_of 0x10 rfl rfl rfl
theorem TableRow.oraIndY (z : Byte) : TableRow.Statement (.oraIndY z) := tableRow_of 0x11 rfl rfl rfl
theorem TableRow.jam12 : TableRow.Statement .jam12 := tableRow_of 0x12 rfl rfl rfl
theorem TableRow.sloIndY (z : Byte) : TableRow.Statement (.sloIndY z) := tableRow_of 0x13 rfl rfl rfl
theorem TableRow.nopZpX14 (z : Byte) : TableRow.Statement (.nopZpX14 z) := tableRow_of 0x14 rfl rfl rfl
theorem TableRow.oraZpX (z : Byte) : TableRow.Statement (.oraZpX z) := tableRow_of 0x15 rfl rfl rfl
theorem TableRow.aslZpX (z : Byte) : TableRow.Statement (.aslZpX z) := tableRow_of 0x16 rfl rfl rfl
theorem TableRow.sloZpX (z : Byte) : TableRow.Statement (.sloZpX z) := tableRow_of 0x17 rfl rfl rfl
theorem TableRow.clc : TableRow.Statement .clc := tableRow_of 0x18 rfl rfl rfl
theorem TableRow.oraAbsY (w : Addr) : TableRow.Statement (.oraAbsY w) := tableRow_of 0x19 rfl rfl rfl
theorem TableRow.nopImp1A : TableRow.Statement .nopImp1A := tableRow_of 0x1A rfl rfl rfl
theorem TableRow.sloAbsY (w : Addr) : TableRow.Statement (.sloAbsY w) := tableRow_of 0x1B rfl rfl rfl
theorem TableRow.nopAbsX1C (w : Addr) : TableRow.Statement (.nopAbsX1C w) := tableRow_of 0x1C rfl rfl rfl
theorem TableRow.oraAbsX (w : Addr) : TableRow.Statement (.oraAbsX w) := tableRow_of 0x1D rfl rfl rfl
theorem TableRow.aslAbsX (w : Addr) : TableRow.Statement (.aslAbsX w) := tableRow_of 0x1E rfl rfl rfl
theorem TableRow.sloAbsX (w : Addr) : TableRow.Statement (.sloAbsX w) := tableRow_of 0x1F rfl rfl rfl
theorem TableRow.jsr (w : Addr) : TableRow.Statement (.jsr w) := tableRow_of 0x20 rfl rfl rfl
theorem TableRow.andIndX (z : Byte) : TableRow.Statement (.andIndX z) := tableRow_of 0x21 rfl rfl rfl
theorem TableRow.jam22 : TableRow.Statement .jam22 := tableRow_of 0x22 rfl rfl rfl
theorem TableRow.rlaIndX (z : Byte) : TableRow.Statement (.rlaIndX z) := tableRow_of 0x23 rfl rfl rfl
theorem TableRow.bitZp (z : Byte) : TableRow.Statement (.bitZp z) := tableRow_of 0x24 rfl rfl rfl
theorem TableRow.andZp (z : Byte) : TableRow.Statement (.andZp z) := tableRow_of 0x25 rfl rfl rfl
theorem TableRow.rolZp (z : Byte) : TableRow.Statement (.rolZp z) := tableRow_of 0x26 rfl rfl rfl
theorem TableRow.rlaZp (z : Byte) : TableRow.Statement (.rlaZp z) := tableRow_of 0x27 rfl rfl rfl
theorem TableRow.plp : TableRow.Statement .plp := tableRow_of 0x28 rfl rfl rfl
theorem TableRow.andImm (v : Byte) : TableRow.Statement (.andImm v) := tableRow_of 0x29 rfl rfl rfl
theorem TableRow.rolA : TableRow.Statement .rolA := tableRow_of 0x2A rfl rfl rfl
theorem TableRow.anc2B : TableRow.Statement .anc2B := tableRow_of 0x2B rfl rfl rfl
theorem TableRow.bitAbs (w : Addr) : TableRow.Statement (.bitAbs w) := tableRow_of 0x2C rfl rfl rfl
theorem TableRow.andAbs (w : Addr) : TableRow.Statement (.andAbs w) := tableRow_of 0x2D rfl rfl rfl
theorem TableRow.rolAbs (w : Addr) : TableRow.Statement (.rolAbs w) := tableRow_of 0x2E rfl rfl rfl
theorem TableRow.rlaAbs (w : Addr) : TableRow.Statement (.rlaAbs w) := tableRow_of 0x2F rfl rfl rfl
theorem TableRow.bmi (off : Byte) : TableRow.Statement (.bmi off) := tableRow_of 0x30 rfl rfl rfl
theorem TableRow.andIndY (z : Byte) : TableRow.Statement (.andIndY z) := tableRow_of 0x31 rfl rfl rfl
theorem TableRow.jam32 : TableRow.Statement .jam32 := tableRow_of 0x32 rfl rfl rfl
theorem TableRow.rlaIndY (z : Byte) : TableRow.Statement (.rlaIndY z) := tableRow_of 0x33 rfl rfl rfl
theorem TableRow.nopZpX34 (z : Byte) : TableRow.Statement (.nopZpX34 z) := tableRow_of 0x34 rfl rfl rfl
theorem TableRow.andZpX (z : Byte) : TableRow.Statement (.andZpX z) := tableRow_of 0x35 rfl rfl rfl
theorem TableRow.rolZpX (z : Byte) : TableRow.Statement (.rolZpX z) := tableRow_of 0x36 rfl rfl rfl
theorem TableRow.rlaZpX (z : Byte) : TableRow.Statement (.rlaZpX z) := tableRow_of 0x37 rfl rfl rfl
theorem TableRow.sec : TableRow.Statement .sec := tableRow_of 0x38 rfl rfl rfl
theorem TableRow.andAbsY (w : Addr) : TableRow.Statement (.andAbsY w) := tableRow_of 0x39 rfl rfl rfl
theorem TableRow.nopImp3A : TableRow.Statement .nopImp3A := tableRow_of 0x3A rfl rfl rfl
theorem TableRow.rlaAbsY (w : Addr) : TableRow.Statement (.rlaAbsY w) := tableRow_of 0x3B rfl rfl rfl
theorem TableRow.nopAbsX3C (w : Addr) : TableRow.Statement (.nopAbsX3C w) := tableRow_of 0x3C rfl rfl rfl
theorem TableRow.andAbsX (w : Addr) : TableRow.Statement (.andAbsX w) := tableRow_of 0x3D rfl rfl rfl
theorem TableRow.rolAbsX (w : Addr) : TableRow.Statement (.rolAbsX w) := tableRow_of 0x3E rfl rfl rfl
theorem TableRow.rlaAbsX (w : Addr) : TableRow.Statement (.rlaAbsX w) := tableRow_of 0x3F rfl rfl rfl
theorem TableRow.rti : TableRow.Statement .rti := tableRow_of 0x40 rfl rfl rfl
theorem TableRow.eorIndX (z : Byte) : TableRow.Statement (.eorIndX z) := tableRow_of 0x41 rfl rfl rfl
theorem TableRow.jam42 : TableRow.Statement .jam42 := tableRow_of 0x42 rfl rfl rfl
theorem TableRow.sreIndX (z : Byte) : TableRow.Statement (.sreIndX z) := tableRow_of 0x43 rfl rfl rfl
theorem TableRow.nopZp44 (z : Byte) : TableRow.Statement (.nopZp44 z) := tableRow_of 0x44 rfl rfl rfl
theorem TableRow.eorZp (z : Byte) : TableRow.Statement (.eorZp z) := tableRow_of 0x45 rfl rfl rfl
theorem TableRow.lsrZp (z : Byte) : TableRow.Statement (.lsrZp z) := tableRow_of 0x46 rfl rfl rfl
theorem TableRow.sreZp (z : Byte) : TableRow.Statement (.sreZp z) := tableRow_of 0x47 rfl rfl rfl
theorem TableRow.pha : TableRow.Statement .pha := tableRow_of 0x48 rfl rfl rfl
theorem TableRow.eorImm (v : Byte) : TableRow.Statement (.eorImm v) := tableRow_of 0x49 rfl rfl rfl
theorem TableRow.lsrA : TableRow.Statement .lsrA := tableRow_of 0x4A rfl rfl rfl
theorem TableRow.alr : TableRow.Statement .alr := tableRow_of 0x4B rfl rfl rfl
theorem TableRow.jmpAbs (w : Addr) : TableRow.Statement (.jmpAbs w) := tableRow_of 0x4C rfl rfl rfl
theorem TableRow.eorAbs (w : Addr) : TableRow.Statement (.eorAbs w) := tableRow_of 0x4D rfl rfl rfl
theorem TableRow.lsrAbs (w : Addr) : TableRow.Statement (.lsrAbs w) := tableRow_of 0x4E rfl rfl rfl
theorem TableRow.sreAbs (w : Addr) : TableRow.Statement (.sreAbs w) := tableRow_of 0x4F rfl rfl rfl
theorem TableRow.bvc (off : Byte) : TableRow.Statement (.bvc off) := tableRow_of 0x50 rfl rfl rfl
theorem TableRow.eorIndY (z : Byte) : TableRow.Statement (.eorIndY z) := tableRow_of 0x51 rfl rfl rfl
theorem TableRow.jam52 : TableRow.Statement .jam52 := tableRow_of 0x52 rfl rfl rfl
theorem TableRow.sreIndY (z : Byte) : TableRow.Statement (.sreIndY z) := tableRow_of 0x53 rfl rfl rfl
theorem TableRow.nopZpX54 (z : Byte) : TableRow.Statement (.nopZpX54 z) := tableRow_of 0x54 rfl rfl rfl
theorem TableRow.eorZpX (z : Byte) : TableRow.Statement (.eorZpX z) := tableRow_of 0x55 rfl rfl rfl
theorem TableRow.lsrZpX (z : Byte) : TableRow.Statement (.lsrZpX z) := tableRow_of 0x56 rfl rfl rfl
theorem TableRow.sreZpX (z : Byte) : TableRow.Statement (.sreZpX z) := tableRow_of 0x57 rfl rfl rfl
theorem TableRow.cli : TableRow.Statement .cli := tableRow_of 0x58 rfl rfl rfl
theorem TableRow.eorAbsY (w : Addr) : TableRow.Statement (.eorAbsY w) := tableRow_of 0x59 rfl rfl rfl
theorem TableRow.nopImp5A : TableRow.Statement .nopImp5A := tableRow_of 0x5A rfl rfl rfl
theorem TableRow.sreAbsY (w : Addr) : TableRow.Statement (.sreAbsY w) := tableRow_of 0x5B rfl rfl rfl
theorem TableRow.nopAbsX5C (w : Addr) : TableRow.Statement (.nopAbsX5C w) := tableRow_of 0x5C rfl rfl rfl
theorem TableRow.eorAbsX (w : Addr) : TableRow.Statement (.eorAbsX w) := tableRow_of 0x5D rfl rfl rfl
theorem TableRow.lsrAbsX (w : Addr) : TableRow.Statement (.lsrAbsX w) := tableRow_of 0x5E rfl rfl rfl
theorem TableRow.sreAbsX (w : Addr) : TableRow.Statement (.sreAbsX w) := tableRow_of 0x5F rfl rfl rfl
theorem TableRow.rts : TableRow.Statement .rts := tableRow_of 0x60 rfl rfl rfl
theorem TableRow.adcIndX (z : Byte) : TableRow.Statement (.adcIndX z) := tableRow_of 0x61 rfl rfl rfl
theorem TableRow.jam62 : TableRow.Statement .jam62 := tableRow_of 0x62 rfl rfl rfl
theorem TableRow.rraIndX (z : Byte) : TableRow.Statement (.rraIndX z) := tableRow_of 0x63 rfl rfl rfl
theorem TableRow.nopZp64 (z : Byte) : TableRow.Statement (.nopZp64 z) := tableRow_of 0x64 rfl rfl rfl
theorem TableRow.adcZp (z : Byte) : TableRow.Statement (.adcZp z) := tableRow_of 0x65 rfl rfl rfl
theorem TableRow.rorZp (z : Byte) : TableRow.Statement (.rorZp z) := tableRow_of 0x66 rfl rfl rfl
theorem TableRow.rraZp (z : Byte) : TableRow.Statement (.rraZp z) := tableRow_of 0x67 rfl rfl rfl
theorem TableRow.pla : TableRow.Statement .pla := tableRow_of 0x68 rfl rfl rfl
theorem TableRow.adcImm (v : Byte) : TableRow.Statement (.adcImm v) := tableRow_of 0x69 rfl rfl rfl
theorem TableRow.rorA : TableRow.Statement .rorA := tableRow_of 0x6A rfl rfl rfl
theorem TableRow.arr : TableRow.Statement .arr := tableRow_of 0x6B rfl rfl rfl
theorem TableRow.jmpInd (w : Addr) : TableRow.Statement (.jmpInd w) := tableRow_of 0x6C rfl rfl rfl
theorem TableRow.adcAbs (w : Addr) : TableRow.Statement (.adcAbs w) := tableRow_of 0x6D rfl rfl rfl
theorem TableRow.rorAbs (w : Addr) : TableRow.Statement (.rorAbs w) := tableRow_of 0x6E rfl rfl rfl
theorem TableRow.rraAbs (w : Addr) : TableRow.Statement (.rraAbs w) := tableRow_of 0x6F rfl rfl rfl
theorem TableRow.bvs (off : Byte) : TableRow.Statement (.bvs off) := tableRow_of 0x70 rfl rfl rfl
theorem TableRow.adcIndY (z : Byte) : TableRow.Statement (.adcIndY z) := tableRow_of 0x71 rfl rfl rfl
theorem TableRow.jam72 : TableRow.Statement .jam72 := tableRow_of 0x72 rfl rfl rfl
theorem TableRow.rraIndY (z : Byte) : TableRow.Statement (.rraIndY z) := tableRow_of 0x73 rfl rfl rfl
theorem TableRow.nopZpX74 (z : Byte) : TableRow.Statement (.nopZpX74 z) := tableRow_of 0x74 rfl rfl rfl
theorem TableRow.adcZpX (z : Byte) : TableRow.Statement (.adcZpX z) := tableRow_of 0x75 rfl rfl rfl
theorem TableRow.rorZpX (z : Byte) : TableRow.Statement (.rorZpX z) := tableRow_of 0x76 rfl rfl rfl
theorem TableRow.rraZpX (z : Byte) : TableRow.Statement (.rraZpX z) := tableRow_of 0x77 rfl rfl rfl
theorem TableRow.sei : TableRow.Statement .sei := tableRow_of 0x78 rfl rfl rfl
theorem TableRow.adcAbsY (w : Addr) : TableRow.Statement (.adcAbsY w) := tableRow_of 0x79 rfl rfl rfl
theorem TableRow.nopImp7A : TableRow.Statement .nopImp7A := tableRow_of 0x7A rfl rfl rfl
theorem TableRow.rraAbsY (w : Addr) : TableRow.Statement (.rraAbsY w) := tableRow_of 0x7B rfl rfl rfl
theorem TableRow.nopAbsX7C (w : Addr) : TableRow.Statement (.nopAbsX7C w) := tableRow_of 0x7C rfl rfl rfl
theorem TableRow.adcAbsX (w : Addr) : TableRow.Statement (.adcAbsX w) := tableRow_of 0x7D rfl rfl rfl
theorem TableRow.rorAbsX (w : Addr) : TableRow.Statement (.rorAbsX w) := tableRow_of 0x7E rfl rfl rfl
theorem TableRow.rraAbsX (w : Addr) : TableRow.Statement (.rraAbsX w) := tableRow_of 0x7F rfl rfl rfl
theorem TableRow.nopImm80 (v : Byte) : TableRow.Statement (.nopImm80 v) := tableRow_of 0x80 rfl rfl rfl
theorem TableRow.staIndX (z : Byte) : TableRow.Statement (.staIndX z) := tableRow_of 0x81 rfl rfl rfl
theorem TableRow.nopImm82 (v : Byte) : TableRow.Statement (.nopImm82 v) := tableRow_of 0x82 rfl rfl rfl
theorem TableRow.saxIndX (z : Byte) : TableRow.Statement (.saxIndX z) := tableRow_of 0x83 rfl rfl rfl
theorem TableRow.styZp (z : Byte) : TableRow.Statement (.styZp z) := tableRow_of 0x84 rfl rfl rfl
theorem TableRow.staZp (z : Byte) : TableRow.Statement (.staZp z) := tableRow_of 0x85 rfl rfl rfl
theorem TableRow.stxZp (z : Byte) : TableRow.Statement (.stxZp z) := tableRow_of 0x86 rfl rfl rfl
theorem TableRow.saxZp (z : Byte) : TableRow.Statement (.saxZp z) := tableRow_of 0x87 rfl rfl rfl
theorem TableRow.dey : TableRow.Statement .dey := tableRow_of 0x88 rfl rfl rfl
theorem TableRow.nopImm89 (v : Byte) : TableRow.Statement (.nopImm89 v) := tableRow_of 0x89 rfl rfl rfl
theorem TableRow.txa : TableRow.Statement .txa := tableRow_of 0x8A rfl rfl rfl
theorem TableRow.xaa : TableRow.Statement .xaa := tableRow_of 0x8B rfl rfl rfl
theorem TableRow.styAbs (w : Addr) : TableRow.Statement (.styAbs w) := tableRow_of 0x8C rfl rfl rfl
theorem TableRow.staAbs (w : Addr) : TableRow.Statement (.staAbs w) := tableRow_of 0x8D rfl rfl rfl
theorem TableRow.stxAbs (w : Addr) : TableRow.Statement (.stxAbs w) := tableRow_of 0x8E rfl rfl rfl
theorem TableRow.saxAbs (w : Addr) : TableRow.Statement (.saxAbs w) := tableRow_of 0x8F rfl rfl rfl
theorem TableRow.bcc (off : Byte) : TableRow.Statement (.bcc off) := tableRow_of 0x90 rfl rfl rfl
theorem TableRow.staIndY (z : Byte) : TableRow.Statement (.staIndY z) := tableRow_of 0x91 rfl rfl rfl
theorem TableRow.jam92 : TableRow.Statement .jam92 := tableRow_of 0x92 rfl rfl rfl
theorem TableRow.sha93 : TableRow.Statement .sha93 := tableRow_of 0x93 rfl rfl rfl
theorem TableRow.styZpX (z : Byte) : TableRow.Statement (.styZpX z) := tableRow_of 0x94 rfl rfl rfl
theorem TableRow.staZpX (z : Byte) : TableRow.Statement (.staZpX z) := tableRow_of 0x95 rfl rfl rfl
theorem TableRow.stxZpY (z : Byte) : TableRow.Statement (.stxZpY z) := tableRow_of 0x96 rfl rfl rfl
theorem TableRow.saxZpY (z : Byte) : TableRow.Statement (.saxZpY z) := tableRow_of 0x97 rfl rfl rfl
theorem TableRow.tya : TableRow.Statement .tya := tableRow_of 0x98 rfl rfl rfl
theorem TableRow.staAbsY (w : Addr) : TableRow.Statement (.staAbsY w) := tableRow_of 0x99 rfl rfl rfl
theorem TableRow.txs : TableRow.Statement .txs := tableRow_of 0x9A rfl rfl rfl
theorem TableRow.tas : TableRow.Statement .tas := tableRow_of 0x9B rfl rfl rfl
theorem TableRow.shy : TableRow.Statement .shy := tableRow_of 0x9C rfl rfl rfl
theorem TableRow.staAbsX (w : Addr) : TableRow.Statement (.staAbsX w) := tableRow_of 0x9D rfl rfl rfl
theorem TableRow.shx : TableRow.Statement .shx := tableRow_of 0x9E rfl rfl rfl
theorem TableRow.sha9F : TableRow.Statement .sha9F := tableRow_of 0x9F rfl rfl rfl
theorem TableRow.ldyImm (v : Byte) : TableRow.Statement (.ldyImm v) := tableRow_of 0xA0 rfl rfl rfl
theorem TableRow.ldaIndX (z : Byte) : TableRow.Statement (.ldaIndX z) := tableRow_of 0xA1 rfl rfl rfl
theorem TableRow.ldxImm (v : Byte) : TableRow.Statement (.ldxImm v) := tableRow_of 0xA2 rfl rfl rfl
theorem TableRow.laxIndX (z : Byte) : TableRow.Statement (.laxIndX z) := tableRow_of 0xA3 rfl rfl rfl
theorem TableRow.ldyZp (z : Byte) : TableRow.Statement (.ldyZp z) := tableRow_of 0xA4 rfl rfl rfl
theorem TableRow.ldaZp (z : Byte) : TableRow.Statement (.ldaZp z) := tableRow_of 0xA5 rfl rfl rfl
theorem TableRow.ldxZp (z : Byte) : TableRow.Statement (.ldxZp z) := tableRow_of 0xA6 rfl rfl rfl
theorem TableRow.laxZp (z : Byte) : TableRow.Statement (.laxZp z) := tableRow_of 0xA7 rfl rfl rfl
theorem TableRow.tay : TableRow.Statement .tay := tableRow_of 0xA8 rfl rfl rfl
theorem TableRow.ldaImm (v : Byte) : TableRow.Statement (.ldaImm v) := tableRow_of 0xA9 rfl rfl rfl
theorem TableRow.tax : TableRow.Statement .tax := tableRow_of 0xAA rfl rfl rfl
theorem TableRow.lxa : TableRow.Statement .lxa := tableRow_of 0xAB rfl rfl rfl
theorem TableRow.ldyAbs (w : Addr) : TableRow.Statement (.ldyAbs w) := tableRow_of 0xAC rfl rfl rfl
theorem TableRow.ldaAbs (w : Addr) : TableRow.Statement (.ldaAbs w) := tableRow_of 0xAD rfl rfl rfl
theorem TableRow.ldxAbs (w : Addr) : TableRow.Statement (.ldxAbs w) := tableRow_of 0xAE rfl rfl rfl
theorem TableRow.laxAbs (w : Addr) : TableRow.Statement (.laxAbs w) := tableRow_of 0xAF rfl rfl rfl
theorem TableRow.bcs (off : Byte) : TableRow.Statement (.bcs off) := tableRow_of 0xB0 rfl rfl rfl
theorem TableRow.ldaIndY (z : Byte) : TableRow.Statement (.ldaIndY z) := tableRow_of 0xB1 rfl rfl rfl
theorem TableRow.jamB2 : TableRow.Statement .jamB2 := tableRow_of 0xB2 rfl rfl rfl
theorem TableRow.laxIndY (z : Byte) : TableRow.Statement (.laxIndY z) := tableRow_of 0xB3 rfl rfl rfl
theorem TableRow.ldyZpX (z : Byte) : TableRow.Statement (.ldyZpX z) := tableRow_of 0xB4 rfl rfl rfl
theorem TableRow.ldaZpX (z : Byte) : TableRow.Statement (.ldaZpX z) := tableRow_of 0xB5 rfl rfl rfl
theorem TableRow.ldxZpY (z : Byte) : TableRow.Statement (.ldxZpY z) := tableRow_of 0xB6 rfl rfl rfl
theorem TableRow.laxZpY (z : Byte) : TableRow.Statement (.laxZpY z) := tableRow_of 0xB7 rfl rfl rfl
theorem TableRow.clv : TableRow.Statement .clv := tableRow_of 0xB8 rfl rfl rfl
theorem TableRow.ldaAbsY (w : Addr) : TableRow.Statement (.ldaAbsY w) := tableRow_of 0xB9 rfl rfl rfl
theorem TableRow.tsx : TableRow.Statement .tsx := tableRow_of 0xBA rfl rfl rfl
theorem TableRow.las : TableRow.Statement .las := tableRow_of 0xBB rfl rfl rfl
theorem TableRow.ldyAbsX (w : Addr) : TableRow.Statement (.ldyAbsX w) := tableRow_of 0xBC rfl rfl rfl
theorem TableRow.ldaAbsX (w : Addr) : TableRow.Statement (.ldaAbsX w) := tableRow_of 0xBD rfl rfl rfl
theorem TableRow.ldxAbsY (w : Addr) : TableRow.Statement (.ldxAbsY w) := tableRow_of 0xBE rfl rfl rfl
theorem TableRow.laxAbsY (w : Addr) : TableRow.Statement (.laxAbsY w) := tableRow_of 0xBF rfl rfl rfl
theorem TableRow.cpyImm (v : Byte) : TableRow.Statement (.cpyImm v) := tableRow_of 0xC0 rfl rfl rfl
theorem TableRow.cmpIndX (z : Byte) : TableRow.Statement (.cmpIndX z) := tableRow_of 0xC1 rfl rfl rfl
theorem TableRow.nopImmC2 (v : Byte) : TableRow.Statement (.nopImmC2 v) := tableRow_of 0xC2 rfl rfl rfl
theorem TableRow.dcpIndX (z : Byte) : TableRow.Statement (.dcpIndX z) := tableRow_of 0xC3 rfl rfl rfl
theorem TableRow.cpyZp (z : Byte) : TableRow.Statement (.cpyZp z) := tableRow_of 0xC4 rfl rfl rfl
theorem TableRow.cmpZp (z : Byte) : TableRow.Statement (.cmpZp z) := tableRow_of 0xC5 rfl rfl rfl
theorem TableRow.decZp (z : Byte) : TableRow.Statement (.decZp z) := tableRow_of 0xC6 rfl rfl rfl
theorem TableRow.dcpZp (z : Byte) : TableRow.Statement (.dcpZp z) := tableRow_of 0xC7 rfl rfl rfl
theorem TableRow.iny : TableRow.Statement .iny := tableRow_of 0xC8 rfl rfl rfl
theorem TableRow.cmpImm (v : Byte) : TableRow.Statement (.cmpImm v) := tableRow_of 0xC9 rfl rfl rfl
theorem TableRow.dex : TableRow.Statement .dex := tableRow_of 0xCA rfl rfl rfl
theorem TableRow.sbx : TableRow.Statement .sbx := tableRow_of 0xCB rfl rfl rfl
theorem TableRow.cpyAbs (w : Addr) : TableRow.Statement (.cpyAbs w) := tableRow_of 0xCC rfl rfl rfl
theorem TableRow.cmpAbs (w : Addr) : TableRow.Statement (.cmpAbs w) := tableRow_of 0xCD rfl rfl rfl
theorem TableRow.decAbs (w : Addr) : TableRow.Statement (.decAbs w) := tableRow_of 0xCE rfl rfl rfl
theorem TableRow.dcpAbs (w : Addr) : TableRow.Statement (.dcpAbs w) := tableRow_of 0xCF rfl rfl rfl
theorem TableRow.bne (off : Byte) : TableRow.Statement (.bne off) := tableRow_of 0xD0 rfl rfl rfl
theorem TableRow.cmpIndY (z : Byte) : TableRow.Statement (.cmpIndY z) := tableRow_of 0xD1 rfl rfl rfl
theorem TableRow.jamD2 : TableRow.Statement .jamD2 := tableRow_of 0xD2 rfl rfl rfl
theorem TableRow.dcpIndY (z : Byte) : TableRow.Statement (.dcpIndY z) := tableRow_of 0xD3 rfl rfl rfl
theorem TableRow.nopZpXD4 (z : Byte) : TableRow.Statement (.nopZpXD4 z) := tableRow_of 0xD4 rfl rfl rfl
theorem TableRow.cmpZpX (z : Byte) : TableRow.Statement (.cmpZpX z) := tableRow_of 0xD5 rfl rfl rfl
theorem TableRow.decZpX (z : Byte) : TableRow.Statement (.decZpX z) := tableRow_of 0xD6 rfl rfl rfl
theorem TableRow.dcpZpX (z : Byte) : TableRow.Statement (.dcpZpX z) := tableRow_of 0xD7 rfl rfl rfl
theorem TableRow.cld : TableRow.Statement .cld := tableRow_of 0xD8 rfl rfl rfl
theorem TableRow.cmpAbsY (w : Addr) : TableRow.Statement (.cmpAbsY w) := tableRow_of 0xD9 rfl rfl rfl
theorem TableRow.nopImpDA : TableRow.Statement .nopImpDA := tableRow_of 0xDA rfl rfl rfl
theorem TableRow.dcpAbsY (w : Addr) : TableRow.Statement (.dcpAbsY w) := tableRow_of 0xDB rfl rfl rfl
theorem TableRow.nopAbsXDC (w : Addr) : TableRow.Statement (.nopAbsXDC w) := tableRow_of 0xDC rfl rfl rfl
theorem TableRow.cmpAbsX (w : Addr) : TableRow.Statement (.cmpAbsX w) := tableRow_of 0xDD rfl rfl rfl
theorem TableRow.decAbsX (w : Addr) : TableRow.Statement (.decAbsX w) := tableRow_of 0xDE rfl rfl rfl
theorem TableRow.dcpAbsX (w : Addr) : TableRow.Statement (.dcpAbsX w) := tableRow_of 0xDF rfl rfl rfl
theorem TableRow.cpxImm (v : Byte) : TableRow.Statement (.cpxImm v) := tableRow_of 0xE0 rfl rfl rfl
theorem TableRow.sbcIndX (z : Byte) : TableRow.Statement (.sbcIndX z) := tableRow_of 0xE1 rfl rfl rfl
theorem TableRow.nopImmE2 (v : Byte) : TableRow.Statement (.nopImmE2 v) := tableRow_of 0xE2 rfl rfl rfl
theorem TableRow.isbIndX (z : Byte) : TableRow.Statement (.isbIndX z) := tableRow_of 0xE3 rfl rfl rfl
theorem TableRow.cpxZp (z : Byte) : TableRow.Statement (.cpxZp z) := tableRow_of 0xE4 rfl rfl rfl
theorem TableRow.sbcZp (z : Byte) : TableRow.Statement (.sbcZp z) := tableRow_of 0xE5 rfl rfl rfl
theorem TableRow.incZp (z : Byte) : TableRow.Statement (.incZp z) := tableRow_of 0xE6 rfl rfl rfl
theorem TableRow.isbZp (z : Byte) : TableRow.Statement (.isbZp z) := tableRow_of 0xE7 rfl rfl rfl
theorem TableRow.inx : TableRow.Statement .inx := tableRow_of 0xE8 rfl rfl rfl
theorem TableRow.sbcImm (v : Byte) : TableRow.Statement (.sbcImm v) := tableRow_of 0xE9 rfl rfl rfl
theorem TableRow.nop : TableRow.Statement .nop := tableRow_of 0xEA rfl rfl rfl
theorem TableRow.sbcImmEB (v : Byte) : TableRow.Statement (.sbcImmEB v) := tableRow_of 0xEB rfl rfl rfl
theorem TableRow.cpxAbs (w : Addr) : TableRow.Statement (.cpxAbs w) := tableRow_of 0xEC rfl rfl rfl
theorem TableRow.sbcAbs (w : Addr) : TableRow.Statement (.sbcAbs w) := tableRow_of 0xED rfl rfl rfl
theorem TableRow.incAbs (w : Addr) : TableRow.Statement (.incAbs w) := tableRow_of 0xEE rfl rfl rfl
theorem TableRow.isbAbs (w : Addr) : TableRow.Statement (.isbAbs w) := tableRow_of 0xEF rfl rfl rfl
theorem TableRow.beq (off : Byte) : TableRow.Statement (.beq off) := tableRow_of 0xF0 rfl rfl rfl
theorem TableRow.sbcIndY (z : Byte) : TableRow.Statement (.sbcIndY z) := tableRow_of 0xF1 rfl rfl rfl
theorem TableRow.jamF2 : TableRow.Statement .jamF2 := tableRow_of 0xF2 rfl rfl rfl
theorem TableRow.isbIndY (z : Byte) : TableRow.Statement (.isbIndY z) := tableRow_of 0xF3 rfl rfl rfl
theorem TableRow.nopZpXF4 (z : Byte) : TableRow.Statement (.nopZpXF4 z) := tableRow_of 0xF4 rfl rfl rfl
theorem TableRow.sbcZpX (z : Byte) : TableRow.Statement (.sbcZpX z) := tableRow_of 0xF5 rfl rfl rfl
theorem TableRow.incZpX (z : Byte) : TableRow.Statement (.incZpX z) := tableRow_of 0xF6 rfl rfl rfl
theorem TableRow.isbZpX (z : Byte) : TableRow.Statement (.isbZpX z) := tableRow_of 0xF7 rfl rfl rfl
theorem TableRow.sed : TableRow.Statement .sed := tableRow_of 0xF8 rfl rfl rfl
theorem TableRow.sbcAbsY (w : Addr) : TableRow.Statement (.sbcAbsY w) := tableRow_of 0xF9 rfl rfl rfl
theorem TableRow.nopImpFA : TableRow.Statement .nopImpFA := tableRow_of 0xFA rfl rfl rfl
theorem TableRow.isbAbsY (w : Addr) : TableRow.Statement (.isbAbsY w) := tableRow_of 0xFB rfl rfl rfl
theorem TableRow.nopAbsXFC (w : Addr) : TableRow.Statement (.nopAbsXFC w) := tableRow_of 0xFC rfl rfl rfl
theorem TableRow.sbcAbsX (w : Addr) : TableRow.Statement (.sbcAbsX w) := tableRow_of 0xFD rfl rfl rfl
theorem TableRow.incAbsX (w : Addr) : TableRow.Statement (.incAbsX w) := tableRow_of 0xFE rfl rfl rfl
theorem TableRow.isbAbsX (w : Addr) : TableRow.Statement (.isbAbsX w) := tableRow_of 0xFF rfl rfl rfl

end Sys2Proof.Laws
end

