-- ==== Sys2Proof/Laws/Run.lean ====
section
/-! SUPPORT. The inductions over runs, done once: what every step keeps, every run keeps; where every step goes on, every
run does. -/

namespace Sys2Proof.Laws

/-- A run that begins with a step to a next state goes on from there. -/
theorem run_succ (M : Host.Core) {s t : M.State} (h : M.step s = .next t) (n : Nat) : M.run (n + 1) s = M.run n t := by
  rw [Host.Core.run, h]

/-- A property that every step keeps holds at the end of every run that starts with it. -/
theorem run_keeps (M : Host.Core) (P : M.State → Prop) (h : ∀ s t, P s → M.step s = .next t → P t) (n : Nat) :
    ∀ s t, P s → M.run n s = .next t → P t := by
  induction n with
  | zero => intro s t hs hr; rw [Host.Core.run] at hr; cases hr; exact hs
  | succ n ih =>
    intro s t hs hr
    rw [Host.Core.run] at hr
    split at hr
    · exact ih _ t (h s _ hs ‹_›) hr
    · cases hr
    · cases hr

/-- Where every step answers a next state and keeps a property, every run does. -/
theorem run_answers (M : Host.Core) (P : M.State → Prop) (h : ∀ s, P s → ∃ t, M.step s = .next t ∧ P t) (n : Nat) :
    ∀ s, P s → ∃ t, M.run n s = .next t ∧ P t := by
  induction n with
  | zero => intro s hs; exact ⟨s, rfl, hs⟩
  | succ n ih =>
    intro s hs
    obtain ⟨u, hu, pu⟩ := h s hs
    obtain ⟨t, ht, pt⟩ := ih u pu
    refine ⟨t, ?_, pt⟩
    rw [Host.Core.run, hu]
    exact ht

end Sys2Proof.Laws
end

