-- ==== Sys2Proof/Laws/Step.lean ====
section
/-! SUPPORT. Laws of the calls: what a step is for each call of the driver, by the two guards (spec/60_exceptions.md
R210, 70_reset_and_hazards.md R242). -/

namespace Sys2Proof.Machine

open Sys2Proof

/-- A step with a call asked for is that call, made in the state without it. -/
theorem step_call (c : Call) (rest : List Call) (s : State) :
    step { s with calls := c :: rest } = performCall exec c { s with calls := rest } := rfl

/-- A step with nothing asked for is a `tick()`. -/
theorem step_idle (s : State) : step { s with calls := [] } = tickWith exec { s with calls := [] } := rfl

/-- A step is a call in a state that differs in `calls` at most. -/
theorem step_eq (s : State) : ∃ c rest, step s = performCall exec c { s with calls := rest } := by
  obtain ⟨pc, sp, a, x, y, p, mem, halted, pcValid, accesses, returned, calls, script⟩ := s
  cases calls with
  | nil => exact ⟨.tick, [], rfl⟩
  | cons c rest => exact ⟨c, rest, rfl⟩

@[simp] theorem performCall_tick (f : Instr → State → Out) (s : State) : performCall f .tick s = tickWith f s := rfl
@[simp] theorem performCall_nmi (f : Instr → State → Out) (s : State) : performCall f .nmi s = nmi s := rfl
@[simp] theorem performCall_irq (f : Instr → State → Out) (s : State) : performCall f .irq s = irq s := rfl
@[simp] theorem performCall_reset (f : Instr → State → Out) (s : State) : performCall f .reset s = resetCall s := rfl
@[simp] theorem performCall_getRegisters (f : Instr → State → Out) (s : State) :
    performCall f .getRegisters s = .next { s with accesses := [], returned := .registers s.registers } := rfl

theorem halted_isSome {s : State} (h : s.halted ≠ none) : s.halted.isSome = true := Option.isSome_iff_ne_none.2 h

/-- Everything `guarded` can do. -/
theorem guarded_cases (s : State) (run : State → Out) :
    (s.halted ≠ none ∧ guarded s run = .next (noStep s)) ∨
    (s.halted = none ∧ s.pcValid = true ∧ guarded s run = run (beginCall s)) ∨
    (s.halted = none ∧ s.pcValid = false ∧ guarded s run = .next (notReset s)) := by
  by_cases h : s.halted = none
  · cases hv : s.pcValid <;> simp [guarded, h, hv]
  · exact .inl ⟨h, by rw [guarded, if_pos (halted_isSome h)]⟩

theorem guarded_halted {s : State} (h : s.halted ≠ none) (run : State → Out) : guarded s run = .next (noStep s) := by
  rw [guarded, if_pos (halted_isSome h)]

theorem guarded_running {s : State} (h : s.halted = none) (hv : s.pcValid = true) (run : State → Out) :
    guarded s run = run (beginCall s) := by
  simp [guarded, h, hv]

theorem guarded_notReset {s : State} (h : s.halted = none) (hv : s.pcValid = false) (run : State → Out) :
    guarded s run = .next (notReset s) := by
  simp [guarded, h, hv]

/-- Before the first reset every call but `reset()` and `get_registers()` is refused. -/
theorem performCall_notReset {s : State} (h : s.halted = none) (hv : s.pcValid = false) (f : Instr → State → Out)
    {c : Call} (hc : c ∈ [Call.tick, Call.nmi, Call.irq]) : performCall f c s = .next (notReset s) := by
  simp only [List.mem_cons, List.not_mem_nil, or_false] at hc
  rcases hc with rfl | rfl | rfl <;> simp only [performCall_tick, performCall_nmi, performCall_irq, tickWith, nmi, irq,
    guarded_notReset h hv]

/-- `tick()` on a running core is the fetched instruction, executed in the state after the fetch. -/
theorem tick_running {s : State} (h : s.halted = none) (hv : s.pcValid = true) (f : Instr → State → Out) :
    tickWith f s = f (fetch (beginCall s)).1 (fetch (beginCall s)).2 := guarded_running h hv _

/-- `nmi()` on a running core is the handler entry. -/
theorem nmi_running {s : State} (h : s.halted = none) (hv : s.pcValid = true) :
    nmi s = .next (interruptEntry Config.nmiVector (beginCall s)) := guarded_running h hv _

/-- `irq()` on a running core with I = 0 is the handler entry. -/
theorem irq_taken {s : State} (h : s.halted = none) (hv : s.pcValid = true) (hi : flagI s.p = false) :
    irq s = .next (interruptEntry Config.irqVector (beginCall s)) := by
  rw [irq, guarded_running h hv, if_neg (by simp [hi])]

/-- `irq()` on a running core with I = 1 does nothing and returns 0. -/
theorem irq_masked {s : State} (h : s.halted = none) (hv : s.pcValid = true) (hi : flagI s.p = true) :
    irq s = .next { beginCall s with returned := .cycles 0 } := by
  rw [irq, guarded_running h hv, if_pos (by simp [hi])]

theorem resetCall_halted {s : State} (h : s.halted ≠ none) : resetCall s = .next (noStep s) := by
  rw [resetCall, if_pos (halted_isSome h)]

/-- A halted core ignores every call but `get_registers()`. -/
theorem performCall_halted {s : State} (h : s.halted ≠ none) (f : Instr → State → Out) {c : Call}
    (hc : c ≠ .getRegisters) : performCall f c s = .next (noStep s) := by
  cases c with
  | getRegisters => exact absurd rfl hc
  | reset => exact resetCall_halted h
  | _ => simp only [performCall_tick, performCall_nmi, performCall_irq, tickWith, nmi, irq, guarded_halted h]

/-- `reset()` on a core that is not halted. -/
theorem resetCall_running {s : State} (h : s.halted = none) :
    resetCall s =
      (let t := busReadWord Config.resetVector { beginCall s with sp := s.sp - 3, p := setI true s.p }
       .next { t.2 with pc := t.1, pcValid := true, returned := .cycles Config.entryCycles }) := by
  rw [resetCall, if_neg (by simp [h])]; rfl

/-- The fetch changes nothing but the access record and the script. -/
theorem fetch_frame (s : State) :
    (fetch s).2.pc = s.pc ∧ (fetch s).2.sp = s.sp ∧ (fetch s).2.a = s.a ∧ (fetch s).2.x = s.x ∧ (fetch s).2.y = s.y ∧
    (fetch s).2.p = s.p ∧ (fetch s).2.mem = s.mem ∧ (fetch s).2.halted = s.halted ∧ (fetch s).2.pcValid = s.pcValid ∧
    (fetch s).2.calls = s.calls := by
  unfold fetch
  dsimp only
  split <;> simp

end Sys2Proof.Machine
end

