-- ==== Sys2Proof/Tests/Slice0.lean ====
section
/-! SUPPORT. Tests. Their expected results are the spec's: the "Example:" or corner case of the named rule, or the named
source example (flags as the rule's Flags clause gives them). Then, for each statement with hypotheses, a state that
meets them all. -/

namespace Sys2Proof.Tests

open Sys2Proof Sys2Proof.Machine Sys2Proof.Spec

/-- The start of the spec's vectors (95_test_vectors.md, conventions). -/
def start : State := { State.reset with pc := 0x0600, sp := 0xFD }

def load (cells : List (Nat × Byte)) (s : State) : State :=
  { s with mem := cells.foldl (fun m c => Memory.write m c.1 c.2) s.mem }

def code (a : Nat) : List Byte → List (Nat × Byte)
  | [] => []
  | b :: rest => (a, b) :: code (a + 1) rest

def after (o : Out) : Option State :=
  match o with
  | .next t => some t
  | .fault _ => none
  | .refused _ => none

/-- One step of `s` with the bytes at PC and the cells in memory, and what is asked of the state after. -/
def tick {α : Type} (bytes : List Byte) (cells : List (Nat × Byte)) (s : State) (ask : State → α) : Option α :=
  (after (step (load (cells ++ code s.pc.toNat bytes) s))).map ask

/-! ### Well-formedness: each check refuses an ill-formed row -/

/-- A row that every check accepts: LDA Absolute. -/
def goodRow : Descriptor := ⟨"LDA", .legal, some .absolute, 3, some 4, false, .withWord .ldaAbs⟩

theorem test_goodRow : goodRow.wellFormed = true := by decide
theorem test_sizeOk_refuses : Descriptor.sizeOk { goodRow with size := 2 } = false := by decide
theorem test_sizeOk_refuses_padding_of_another_mode :
    Descriptor.sizeOk { goodRow with size := 2, form := .padded .brk } = false := by decide
theorem test_fitsSize_refuses : Form.fitsSize 3 (.alone .nop) = false := by decide
theorem test_cyclesOk_refuses : Descriptor.cyclesOk { goodRow with cycles := some 9 } = false := by decide
theorem test_penaltyOk_refuses : Descriptor.penaltyOk { goodRow with pageCross := true } = false := by decide
theorem test_trapOk_refuses : Descriptor.trapOk { goodRow with slot := .trap } = false := by decide
theorem test_imageOk_refuses : goodRow.imageOk [0xAD, 0x00] = false := by decide
theorem test_every_instruction_is_wellFormed : Instr.wellFormed (.ldaAbs 0xFFFF) = true := by decide

/-! ### Decoding: words written out from the spec's encodings -/

theorem test_decode_load : decode [0xBD, 0xFF, 0x30] = .ok (.ldaAbsX 0x30FF, []) := by rfl
theorem test_decode_store : decode [0x96, 0x10, 0xEA] = .ok (.stxZpY 0x10, [0xEA]) := by rfl
theorem test_decode_transfer : decode [0x9A] = .ok (.txs, []) := by rfl
theorem test_decode_arithmetic : decode [0xF1, 0x20] = .ok (.sbcIndY 0x20, []) := by rfl
theorem test_decode_logic : decode [0x41, 0x20] = .ok (.eorIndX 0x20, []) := by rfl
theorem test_decode_shift : decode [0x6A] = .ok (.rorA, []) := by rfl
theorem test_decode_branch : decode [0x10, 0x7F] = .ok (.bpl 0x7F, []) := by rfl
theorem test_decode_jump : decode [0x6C, 0xFF, 0x30] = .ok (.jmpInd 0x30FF, []) := by rfl
theorem test_decode_stack : decode [0x28] = .ok (.plp, []) := by rfl
theorem test_decode_brk_drops_its_padding : decode [0x00, 0x55, 0xEA] = .ok (.brk, [0xEA]) := by rfl
theorem test_decode_illegal : decode [0xB3, 0x20] = .ok (.laxIndY 0x20, []) := by rfl
theorem test_decode_trap : decode [0x8B, 0x12] = .ok (.xaa, [0x12]) := by rfl
theorem test_decode_nothing : decode [] = .error .noOpcode := by rfl
theorem test_decode_short : decode [0xAD, 0x00] = .error (.missingOperand 0xAD) := by rfl
theorem test_decode_table_word : decodeTableWord 24 0x123420 = some (.jsr 0x1234) := by decide
theorem test_withFetchWord_runs :
    (after (step (State.reset.withFetchWord 16 0x42A9))).map (fun t => (t.a, t.pc)) = some (0x42, 0x0002) := by decide

/-! ### One step of each instruction -/

/-- R100 -/
theorem test_lda_absoluteX_crossing :
    tick [0xBD, 0xFF, 0x30] [(0x3100, 0x42)] ({ start with x := 0x01 })
      (fun t => (t.a, t.p, t.returned)) = some (0x42, 0x24, .cycles 5) := by decide
/-- R91 -/
theorem test_lda_indirectX_pointer_wraps :
    tick [0xA1, 0xFE] [(0x00FF, 0x34), (0x0000, 0x12), (0x1234, 0x80)] ({ start with x := 0x01 })
      (fun t => (t.a, t.p, t.returned)) = some (0x80, 0xA4, .cycles 6) := by decide
/-- R101 -/
theorem test_ldx_immediate :
    tick [0xA2, 0x00] [] ({ start with x := 0x07 })
      (fun t => (t.x, t.p, t.pc, t.returned)) = some (0x00, 0x26, 0x0602, .cycles 2) := by decide
/-- R102 -/
theorem test_ldy_immediate :
    tick [0xA0, 0xFF] [] (start)
      (fun t => (t.y, t.p, t.returned)) = some (0xFF, 0xA4, .cycles 2) := by decide
/-- R103 -/
theorem test_sta_absolute :
    tick [0x8D, 0x00, 0x02] [] ({ start with a := 0x7F })
      (fun t => (t.mem.read 0x0200, t.p, t.returned)) = some (0x7F, 0x24, .cycles 4) := by decide
/-- R92, R96 -/
theorem test_sta_indirectY :
    tick [0x91, 0x80] [(0x0080, 0xFF), (0x0081, 0x02)] ({ start with a := 0x7F, y := 0x01 })
      (fun t => (t.mem.read 0x0300, t.returned)) = some (0x7F, .cycles 6) := by decide
/-- R104 -/
theorem test_stx_zeroPageY_wraps :
    tick [0x96, 0x10] [] ({ start with x := 0x05, y := 0xF0 })
      (fun t => (t.mem.read 0x0000, t.returned)) = some (0x05, .cycles 4) := by decide
/-- R105 -/
theorem test_sty_zeroPageX_wraps :
    tick [0x94, 0xFF] [] ({ start with x := 0x02, y := 0x33 })
      (fun t => (t.mem.read 0x0001, t.returned)) = some (0x33, .cycles 4) := by decide
/-- R106 -/
theorem test_tax : tick [0xAA] [] ({ start with a := 0x80 }) (fun t => (t.x, t.p)) = some (0x80, 0xA4) := by decide
/-- R107 -/
theorem test_tay : tick [0xA8] [] ({ start with y := 0x09 }) (fun t => (t.y, t.p)) = some (0x00, 0x26) := by decide
/-- R108 -/
theorem test_txa : tick [0x8A] [] ({ start with x := 0x01 }) (fun t => (t.a, t.p)) = some (0x01, 0x24) := by decide
/-- R109 -/
theorem test_tya : tick [0x98] [] ({ start with y := 0xFE }) (fun t => (t.a, t.p)) = some (0xFE, 0xA4) := by decide
/-- R110 -/
theorem test_tsx : tick [0xBA] [] ({ start with sp := 0xFA }) (fun t => (t.x, t.p)) = some (0xFA, 0xA4) := by decide
/-- R111 -/
theorem test_txs_sets_no_flag :
    tick [0x9A] [] ({ start with x := 0xFF })
      (fun t => (t.sp, t.p)) = some (0xFF, 0x24) := by decide
/-- R122, source §8 -/
theorem test_adc_overflow :
    tick [0x69, 0x50] [] ({ start with a := 0x50 })
      (fun t => (t.a, t.p)) = some (0xA0, 0xE4) := by decide
/-- R122 (0xFF + 0xFF + 1) -/
theorem test_adc_full_carry :
    tick [0x69, 0xFF] [] ({ start with a := 0xFF, p := 0x25 })
      (fun t => (t.a, t.p)) = some (0xFF, 0xA5) := by decide
/-- R123 -/
theorem test_sbc_no_borrow :
    tick [0xE9, 0x10] [] ({ start with a := 0x10, p := 0x25 })
      (fun t => (t.a, t.p)) = some (0x00, 0x27) := by decide
/-- R123 -/
theorem test_sbc_overflow :
    tick [0xE9, 0xB0] [] ({ start with a := 0x50, p := 0x25 })
      (fun t => (t.a, t.p)) = some (0xA0, 0xE4) := by decide
/-- R124 -/
theorem test_and :
    tick [0x29, 0x8F] [] ({ start with a := 0xF0 })
      (fun t => (t.a, t.p)) = some (0x80, 0xA4) := by decide
/-- R125 -/
theorem test_ora :
    tick [0x09, 0x80] [] ({ start with a := 0x01 })
      (fun t => (t.a, t.p)) = some (0x81, 0xA4) := by decide
/-- R126 -/
theorem test_eor :
    tick [0x49, 0xFF] [] ({ start with a := 0x55 })
      (fun t => (t.a, t.p)) = some (0xAA, 0xA4) := by decide
/-- R127 -/
theorem test_cmp_equal :
    tick [0xC9, 0x40] [] ({ start with a := 0x40 })
      (fun t => (t.a, t.p)) = some (0x40, 0x27) := by decide
/-- R128 -/
theorem test_cpx_below :
    tick [0xE0, 0x06] [] ({ start with x := 0x05 })
      (fun t => (t.x, t.p)) = some (0x05, 0xA4) := by decide
/-- R129 -/
theorem test_cpy_equal : tick [0xC0, 0x00] [] (start) (fun t => (t.y, t.p)) = some (0x00, 0x27) := by decide
/-- R130 -/
theorem test_bit_flags_from_memory :
    tick [0x24, 0x10] [(0x0010, 0xC0)] ({ start with a := 0x01 })
      (fun t => (t.a, t.p)) = some (0x01, 0xE6) := by decide
/-- R130, C1 -/
theorem test_bit_tests_bit_six_only :
    tick [0x24, 0x10] [(0x0010, 0x20)] ({ start with a := 0x20 })
      (fun t => t.p) = some 0x24 := by decide
/-- R131 -/
theorem test_inc_wraps :
    tick [0xE6, 0x10] [(0x0010, 0xFF)] (start)
      (fun t => (t.mem.read 0x10, t.p, t.returned)) = some (0x00, 0x26, .cycles 5) := by decide
/-- R132 -/
theorem test_dec :
    tick [0xCE, 0x00, 0x02] [(0x0200, 0x01)] (start)
      (fun t => (t.mem.read 0x200, t.p, t.returned)) = some (0x00, 0x26, .cycles 6) := by decide
/-- R133, source §8 -/
theorem test_inx_wraps :
    tick [0xE8] [] ({ start with x := 0xFF })
      (fun t => (t.x, t.p)) = some (0x00, 0x26) := by decide
/-- R134 -/
theorem test_iny : tick [0xC8] [] ({ start with y := 0x10 }) (fun t => (t.y, t.p)) = some (0x11, 0x24) := by decide
/-- R135 -/
theorem test_dex_wraps : tick [0xCA] [] (start) (fun t => (t.x, t.p)) = some (0xFF, 0xA4) := by decide
/-- R136 -/
theorem test_dey : tick [0x88] [] ({ start with y := 0x01 }) (fun t => (t.y, t.p)) = some (0x00, 0x26) := by decide
/-- R140 -/
theorem test_asl_accumulator :
    tick [0x0A] [] ({ start with a := 0x81 })
      (fun t => (t.a, t.p, t.returned)) = some (0x02, 0x25, .cycles 2) := by decide
/-- R141 -/
theorem test_lsr_memory :
    tick [0x46, 0x10] [(0x0010, 0x03)] (start)
      (fun t => (t.mem.read 0x10, t.p)) = some (0x01, 0x25) := by decide
/-- R142 -/
theorem test_rol_accumulator :
    tick [0x2A] [] ({ start with a := 0x40, p := 0x25 })
      (fun t => (t.a, t.p)) = some (0x81, 0xA4) := by decide
/-- R143 -/
theorem test_ror_memory :
    tick [0x6E, 0x00, 0x03] [(0x0300, 0x02)] ({ start with p := 0x25 })
      (fun t => (t.mem.read 0x300, t.p)) = some (0x81, 0xA4) := by decide
/-- R151 -/
theorem test_bcc_taken :
    tick [0x90, 0x0E] [] (start)
      (fun t => (t.pc, t.returned)) = some (0x0610, .cycles 3) := by decide
/-- R152 -/
theorem test_bcs_not_taken :
    tick [0xB0, 0x0E] [] (start)
      (fun t => (t.pc, t.returned)) = some (0x0602, .cycles 2) := by decide
/-- R153 -/
theorem test_beq_crossing :
    tick [0xF0, 0x01] [] ({ start with pc := 0x00FD, p := 0x26 })
      (fun t => (t.pc, t.returned)) = some (0x0100, .cycles 4) := by decide
/-- R154 -/
theorem test_bne_backward :
    tick [0xD0, 0xFB] [] ({ start with pc := 0x0605 })
      (fun t => (t.pc, t.returned)) = some (0x0602, .cycles 3) := by decide
/-- R155 -/
theorem test_bmi_lowest_offset :
    tick [0x30, 0x80] [] ({ start with pc := 0x0680, p := 0xA4 })
      (fun t => (t.pc, t.returned)) = some (0x0602, .cycles 3) := by decide
/-- R156 -/
theorem test_bpl_highest_offset :
    tick [0x10, 0x7F] [] (start)
      (fun t => (t.pc, t.returned)) = some (0x0681, .cycles 3) := by decide
/-- R157 -/
theorem test_bvc_crossing_downward :
    tick [0x50, 0xF0] [] (start)
      (fun t => (t.pc, t.returned)) = some (0x05F2, .cycles 4) := by decide
/-- R158 -/
theorem test_bvs_taken :
    tick [0x70, 0x02] [] ({ start with p := 0x64 })
      (fun t => (t.pc, t.returned)) = some (0x0604, .cycles 3) := by decide
/-- R159 -/
theorem test_jmp_absolute :
    tick [0x4C, 0x34, 0x12] [] (start)
      (fun t => (t.pc, t.returned)) = some (0x1234, .cycles 3) := by decide
/-- R159, source §8 -/
theorem test_jmp_indirect_page_wrap :
    tick [0x6C, 0xFF, 0x30] [(0x30FF, 0x80), (0x3000, 0x50), (0x3100, 0x60)] (start)
      (fun t => (t.pc, t.returned)) = some (0x5080, .cycles 5) := by decide
/-- R160 -/
theorem test_jsr :
    tick [0x20, 0x34, 0x12] [] (start)
      (fun t => (t.pc, t.sp, t.mem.read 0x01FD, t.mem.read 0x01FC, t.returned)) = some (0x1234, 0xFB, 0x06, 0x02, .cycles 6) := by decide
/-- R160 (SP = 0x00) -/
theorem test_jsr_at_the_stack_top :
    tick [0x20, 0x34, 0x12] [] ({ start with sp := 0x00 })
      (fun t => (t.sp, t.mem.read 0x0100, t.mem.read 0x01FF)) = some (0xFE, 0x06, 0x02) := by decide
/-- R161 -/
theorem test_rts :
    tick [0x60] [(0x01FC, 0x02), (0x01FD, 0x06)] ({ start with sp := 0xFB })
      (fun t => (t.pc, t.sp, t.returned)) = some (0x0603, 0xFD, .cycles 6) := by decide
/-- R170 -/
theorem test_pha :
    tick [0x48] [] ({ start with a := 0x42 })
      (fun t => (t.mem.read 0x01FD, t.sp, t.returned)) = some (0x42, 0xFC, .cycles 3) := by decide
/-- R171 -/
theorem test_php :
    tick [0x08] [] (start)
      (fun t => (t.mem.read 0x01FD, t.sp, t.p)) = some (0x34, 0xFC, 0x24) := by decide
/-- R172 -/
theorem test_pla :
    tick [0x68] [] ({ start with a := 0x09, sp := 0xFC })
      (fun t => (t.a, t.sp, t.p, t.returned)) = some (0x00, 0xFD, 0x26, .cycles 4) := by decide
/-- R172 (SP = 0xFF) -/
theorem test_pla_at_the_stack_bottom :
    tick [0x68] [(0x0100, 0x42)] ({ start with sp := 0xFF })
      (fun t => (t.a, t.sp)) = some (0x42, 0x00) := by decide
/-- R173 -/
theorem test_plp_keeps_break :
    tick [0x28] [(0x01FD, 0xFF)] ({ start with sp := 0xFC })
      (fun t => (t.p, t.sp)) = some (0xEF, 0xFD) := by decide
/-- R174 -/
theorem test_clc : tick [0x18] [] ({ start with p := 0x25 }) (fun t => t.p) = some 0x24 := by decide
/-- R175 -/
theorem test_sec : tick [0x38] [] (start) (fun t => t.p) = some 0x25 := by decide
/-- R176 -/
theorem test_cli : tick [0x58] [] (start) (fun t => t.p) = some 0x20 := by decide
/-- R177 -/
theorem test_sei : tick [0x78] [] ({ start with p := 0x20 }) (fun t => t.p) = some 0x24 := by decide
/-- R178 -/
theorem test_cld : tick [0xD8] [] ({ start with p := 0x2C }) (fun t => t.p) = some 0x24 := by decide
/-- R179 -/
theorem test_sed : tick [0xF8] [] (start) (fun t => t.p) = some 0x2C := by decide
/-- R180 -/
theorem test_clv : tick [0xB8] [] ({ start with p := 0x64 }) (fun t => t.p) = some 0x24 := by decide
/-- R181 -/
theorem test_brk :
    tick [0x00, 0xEA] [(0xFFFF, 0x90)] ({ start with p := 0x20 })
      (fun t => (t.pc, t.sp, t.p, t.mem.read 0x01FD, t.mem.read 0x01FC, t.mem.read 0x01FB)) = some (0x9000, 0xFA, 0x24, 0x06, 0x02, 0x30) := by decide
/-- R182 -/
theorem test_rti :
    tick [0x40] [(0x01FB, 0x30), (0x01FC, 0x02), (0x01FD, 0x06)] ({ start with sp := 0xFA })
      (fun t => (t.pc, t.sp, t.p, t.returned)) = some (0x0602, 0xFD, 0x30, .cycles 6) := by decide
/-- R183 -/
theorem test_nop :
    tick [0xEA] [] (start)
      (fun t => (t.pc, t.p, t.returned)) = some (0x0601, 0x24, .cycles 2) := by decide
/-- R191 -/
theorem test_illegal_nop_reads_its_operand :
    tick [0x1C, 0xFF, 0x30] [(0x3100, 0x77)] ({ start with x := 0x01 })
      (fun t => (t.accesses.getLast?, t.pc, t.returned)) = some (some (.read 0x3100 0x77), 0x0603, .cycles 5) := by decide
/-- R192 -/
theorem test_lax :
    tick [0xA7, 0x10] [(0x0010, 0x80)] (start)
      (fun t => (t.a, t.x, t.p)) = some (0x80, 0x80, 0xA4) := by decide
/-- R193 -/
theorem test_sax :
    tick [0x87, 0x10] [] ({ start with a := 0xF0, x := 0x3C })
      (fun t => (t.mem.read 0x10, t.p)) = some (0x30, 0x24) := by decide
/-- R194 -/
theorem test_sbc_EB :
    tick [0xEB, 0x03] [] ({ start with a := 0x05, p := 0x25 })
      (fun t => (t.a, t.p)) = some (0x02, 0x25) := by decide
/-- R196 -/
theorem test_slo :
    tick [0x07, 0x10] [(0x0010, 0x41)] ({ start with a := 0x10 })
      (fun t => (t.mem.read 0x10, t.a, t.p)) = some (0x82, 0x92, 0xA4) := by decide
/-- R197 -/
theorem test_rla :
    tick [0x27, 0x10] [(0x0010, 0x81)] ({ start with a := 0xFF })
      (fun t => (t.mem.read 0x10, t.a, t.p)) = some (0x02, 0x02, 0x25) := by decide
/-- R198 -/
theorem test_sre :
    tick [0x47, 0x10] [(0x0010, 0x03)] ({ start with a := 0x01 })
      (fun t => (t.mem.read 0x10, t.a, t.p)) = some (0x01, 0x00, 0x27) := by decide
/-- R199 -/
theorem test_rra_adds_the_rotates_carry :
    tick [0x67, 0x10] [(0x0010, 0x02)] ({ start with a := 0x10, p := 0x25 })
      (fun t => (t.mem.read 0x10, t.a, t.p)) = some (0x81, 0x91, 0xA4) := by decide
/-- R200 -/
theorem test_dcp :
    tick [0xC7, 0x10] [(0x0010, 0x41)] ({ start with a := 0x40 })
      (fun t => (t.mem.read 0x10, t.a, t.p)) = some (0x40, 0x40, 0x27) := by decide
/-- R201 -/
theorem test_isb :
    tick [0xE7, 0x10] [(0x0010, 0x01)] ({ start with a := 0x05, p := 0x25 })
      (fun t => (t.mem.read 0x10, t.a, t.p)) = some (0x02, 0x03, 0x25) := by decide
/-- R202 -/
theorem test_jam_is_fatal :
    tick [0x02] [] (start)
      (fun t => (t.halted.map (fun r => (r.opcode, r.pc, r.registers.sp)), t.pc, t.returned)) = some (some (0x02, 0x0600, 0xFD), 0x0600, .fatal) := by decide
/-- R160, R53 -/
theorem test_operand_is_read_before_the_pushes :
    tick [0x20, 0x34, 0x12] [] ({ start with pc := 0x01FB, sp := 0xFD })
      (fun t => (t.pc, t.mem.read 0x01FC)) = some (0x1234, 0xFD) := by decide

/-! ### The driver's calls -/

/-- 70_reset_and_hazards.md R244 (source §8), from construction: PC, SP, P and the count. -/
theorem test_first_reset :
    (after (step { State.construct 0 0 0 [(0xFFFD, 0x80)] [.reset] [] with p := 0x24 })).map
      (fun t => (t.pc, t.sp, t.p, t.returned)) = some (0x8000, 0xFA, 0x24, .cycles 7) := by decide

/-- 60_exceptions.md R215: the pushed P has B = 0, and SP moves by 3. -/
theorem test_nmi :
    (after (step (load [(0xFFFB, 0x90)] { start with p := 0x34, calls := [.nmi] }))).map
      (fun t => (t.pc, t.sp, t.p, t.mem.read 0x01FB, t.returned)) = some (0x9000, 0xFA, 0x34, 0x24, .cycles 7) := by decide

/-- 60_exceptions.md R216: dropped with I = 1. -/
theorem test_irq_masked :
    (after (step { start with calls := [.irq] })).map (fun t => (t.pc, t.sp, t.accesses, t.returned)) =
      some (0x0600, 0xFD, [], .cycles 0) := by decide

/-- 70_reset_and_hazards.md R242. -/
theorem test_tick_before_reset : after (step (State.construct 0 0 0 [] [] [])) =
    some { State.construct 0 0 0 [] [] [] with returned := .notReset } := by decide
/-- 70_reset_and_hazards.md R242: "a later `reset()` proceeds normally"; the values are R244's. -/
theorem test_reset_after_refused_calls :
    (after (Host.Core.run core 3 (State.construct 0 0 0 [(0xFFFD, 0x80)] [.tick, .irq, .reset] []))).map
      (fun t => (t.pc, t.sp, t.p, t.returned)) = some (0x8000, 0xFA, 0x24, .cycles 7) := by decide

/-! ### Each statement's hypotheses are met -/

/-- A running core with I = 0 and a free stack, on a plain-RAM bus. -/
def free : State := { start with p := 0x20 }

/-- A core that a JAM stopped. -/
def stopped : State := { start with halted := some ⟨0x02, 0x0600, start.registers⟩ }

theorem witness_plainRam : PlainRam start ∧ PlainRam free := ⟨⟨rfl, rfl⟩, ⟨rfl, rfl⟩⟩

/-- WritesByte, and every clause on a plain-RAM bus. -/
theorem witness_StoresWriteTheRegister :
    PlainRam start ∧ (⟨.staAbs 0xFFFF, 0x8D, 3, 4, false⟩ : FormRow) ∈ staRows (.absolute 0xFFFF) :=
  ⟨⟨rfl, rfl⟩, .head _⟩

/-- ReadsThen: a form of the list, at the end of the address space. -/
theorem witness_LoadsPutTheByteInTheRegister :
    (⟨.ldaAbsX 0xFFFF, 0xBD, 3, 4, true⟩ : FormRow) ∈ ldaRows (.absoluteX 0xFFFF) := .head _

theorem witness_DecimalFlagChangesNoResult :
    mnemonic (.adcImm 0xFF) ∉ ["PHP", "BRK"] ∧ (descriptor (Instr.adcImm 0xFF).opcode).slot ≠ .trap := by decide

/-- Both sides of the page rule of the branches: the last offset on the page, the first on the next one. -/
theorem witness_BranchesFollowTheirCondition_same_page :
    ((0x0600 : Addr) + 2).toNat / 256 = ((0x0600 : Addr) + 2 + (0x7F : Byte).signExtend 16).toNat / 256 := by decide
theorem witness_BranchesFollowTheirCondition_other_page :
    ((0x00FD : Addr) + 2).toNat / 256 ≠ ((0x00FD : Addr) + 2 + (0x01 : Byte).signExtend 16).toNat / 256 := by decide

/-- Both clauses of the indirect jump, at the pointers 0x30FF and 0x30FE. -/
theorem witness_JmpTakesItsTarget :
    start.script = [] ∧ (0x30FF : Addr).toNat % 256 = 255 ∧ (0x30FE : Addr).toNat % 256 ≠ 255 := by decide

theorem witness_JsrPushesItsReturnAddress : PlainRam { start with sp := 0x00 } := ⟨rfl, rfl⟩
theorem witness_RtsReturnsPastTheCall : ({ start with sp := 0xFF } : State).script = [] := rfl
theorem witness_JsrThenRtsComesBack : PlainRam { start with sp := 0x00 } := ⟨rfl, rfl⟩
theorem witness_PushesWriteOneStackByte : PlainRam { start with sp := 0x00 } := ⟨rfl, rfl⟩
theorem witness_PullsReadOneStackByte : ({ start with sp := 0xFF } : State).script = [] := rfl
theorem witness_BrkEntersTheHandler : PlainRam { start with sp := 0x01 } := ⟨rfl, rfl⟩
theorem witness_RtiRestoresStatusAndPc : ({ start with sp := 0xFE } : State).script = [] := rfl
theorem witness_TrapOpcodesRaiseFatal : ((0x02 : Byte), Instr.jam02) ∈ trapRows := by decide
theorem witness_HaltedCoreMakesNoStep : stopped.halted ≠ none := by decide
theorem witness_FatalEndsEveryRun : stopped.halted ≠ none := by decide

theorem witness_PushedStatusShowsWhoPushed :
    PlainRam free ∧ free.halted = none ∧ free.pcValid = true ∧ flagI free.p = false := ⟨⟨rfl, rfl⟩, rfl, rfl, rfl⟩
theorem witness_UnusedStatusBitReadsAsOne :
    PlainRam free ∧ free.halted = none ∧ free.pcValid = true ∧ flagI free.p = false := ⟨⟨rfl, rfl⟩, rfl, rfl, rfl⟩
theorem witness_NmiEntersTheHandler :
    start.halted = none ∧ start.pcValid = true ∧ start.script = [] ∧ flagI start.p = true := by decide
theorem witness_IrqIsTakenOnlyWithInterruptsEnabled_masked :
    start.halted = none ∧ start.pcValid = true ∧ flagI start.p = true := by decide
theorem witness_IrqIsTakenOnlyWithInterruptsEnabled_taken :
    free.halted = none ∧ free.pcValid = true ∧ flagI free.p = false ∧ free.script = [] := by decide
theorem witness_RtiUndoesHandlerEntry :
    PlainRam free ∧ free.halted = none ∧ free.pcValid = true ∧ flagI free.p = false := ⟨⟨rfl, rfl⟩, rfl, rfl, rfl⟩
theorem witness_InterruptMaskActsAtOnce :
    start.halted = none ∧ start.pcValid = true ∧ (descriptor Instr.plp.opcode).slot ≠ .trap := by decide
/-- PLP leaves I = 0 from a pulled 0x00 and I = 1 from a pulled 0xFF. -/
theorem witness_InterruptMaskActsAtOnce_both :
    (after (exec .plp start)).map (fun t => flagI t.p) = some false ∧
      (after (exec .plp (load [(0x01FE, 0xFF)] start))).map (fun t => flagI t.p) = some true := by decide

theorem witness_ResetSetsPcSpAndInterruptDisable :
    (State.construct 0 0 0 [] [] []).halted = none ∧ (State.construct 0 0 0 [] [] []).script = [] := by decide
theorem witness_CallsBeforeResetAreRefused :
    (State.construct 0 0 0 [] [] []).halted = none ∧ (State.construct 0 0 0 [] [] []).pcValid = false := by decide
/-- Two refused calls before the reset, and none. -/
theorem witness_CallsBeforeResetAreRefused_refused :
    (∀ c ∈ [Call.nmi, Call.tick], c ∈ [Call.tick, Call.nmi, Call.irq]) ∧
      ∀ c ∈ ([] : List Call), c ∈ [Call.tick, Call.nmi, Call.irq] := by decide
/-- The three states of the controller, and in Running a `tick()` that fetches a trap opcode. -/
theorem witness_EveryCallMovesTheControllerAlongItsDiagram :
    Safety.NotReset (State.construct 0 0 0 [] [] []) ∧ Safety.Running start ∧ stopped.halted ≠ none ∧
      (descriptor (busRead start.pc (load [(0x0600, 0x02)] start)).1).slot = .trap :=
  ⟨⟨rfl, rfl⟩, ⟨rfl, rfl⟩, by decide, by decide⟩
theorem witness_PlainRamReadsWhatWasWritten : PlainRam start ∧ (0x0000 : Addr) ≠ 0xFFFF := ⟨⟨rfl, rfl⟩, by decide⟩

/-- The zero-page sums at their end: 0xFF + 0xFF, and a pointer at 0xFF whose high byte is at 0x00. -/
theorem witness_ZeroPageModesStayInPageZero :
    start.script = [] ∧ ((0xFF : Byte).toNat + (0xFF : Byte).toNat) % 256 = 0xFE ∧ (0xFF + 1) % 256 = 0x00 := by decide
/-- A crossing at 0xFFFF + 1 and none at 0x30FE + 1. -/
theorem witness_IndexedModesReportPageCrossing :
    start.script = [] ∧ (resolve (.absoluteX 0xFFFF) { start with x := 0x01 }).crossed = true ∧
      (resolve (.absoluteX 0x30FE) { start with x := 0x01 }).crossed = false := by decide

/-- The three lengths: NOP, LDA Immediate, and JMP across the end of the address space. -/
theorem witness_StepRunsTheDecodedInstruction_alone :
    start.halted = none ∧ start.pcValid = true ∧ start.script = [] ∧ decode [0xEA, 0x00, 0x00] = .ok (.nop, [0x00, 0x00]) :=
  ⟨rfl, rfl, rfl, rfl⟩
theorem witness_StepRunsTheDecodedInstruction_byte : decode [0xA9, 0xFF, 0x00] = .ok (.ldaImm 0xFF, [0x00]) := rfl
theorem witness_StepRunsTheDecodedInstruction_word : decode [0x4C, 0xFF, 0xFF] = .ok (.jmpAbs 0xFFFF, []) := rfl
theorem witness_StepRunsTheDecodedInstruction_wraps :
    tick [0x4C] [(0x0000, 0x34), (0x0001, 0x12)] { start with pc := 0xFFFF } (fun t => t.pc) = some 0x1234 := by decide

theorem witness_DecodeUndoesEncode : (Instr.ldaAbs 0xFFFF).wellFormed = true := rfl
theorem witness_EveryByteIsOneOpcode :
    (descriptor 0xA9).form.operandBytes = 1 ∧ (descriptor 0xFF).form.operandBytes = 2 := by decide

/-- An instruction's next state: NOP's, and of an instruction none of the lists names. -/
theorem witness_RegistersHaveOnlyTheirWriters : exec .nop start = .next (retire 0xEA false start) ∧ mnemonic .nop = "NOP" :=
  ⟨rfl, rfl⟩
theorem witness_FlagsHaveOnlyTheirWriters : exec .txs start = .next (retire 0x9A false (txs start)) ∧ mnemonic .txs = "TXS" :=
  ⟨rfl, rfl⟩
theorem witness_WritesAreThoseOfTheClass : exec .pha start = .next (retire 0x48 false (pushA start)) := rfl
/-- PHA writes 0x01FD only, so that 0x0000 is no recorded write. -/
theorem witness_OnlyRecordedWritesChangeMemory :
    exec .pha start = .next (retire 0x48 false (pushA start)) ∧
      (retire 0x48 false (pushA start)).accesses.getLast? = some (.write 0x01FD 0x00) := by
  exact ⟨rfl, by decide⟩
theorem witness_ReturnedCountIsTwoToEight :
    exec .nop start = .next (retire 0xEA false start) ∧ (descriptor Instr.nop.opcode).slot ≠ .trap := by
  exact ⟨rfl, by decide⟩
theorem witness_EveryStepKeepsTheInvariant :
    Inv start ∧ step { start with calls := [.getRegisters] } =
      .next { start with accesses := [], returned := .registers start.registers } :=
  ⟨⟨rfl, rfl, by intro r h; cases h⟩, rfl⟩
/-- A state with a Fatal record meets the invariant too. -/
theorem witness_EveryStepKeepsTheInvariant_halted : Inv stopped := by
  refine ⟨rfl, rfl, ?_⟩
  intro r h
  cases h
  exact ⟨rfl, rfl, rfl, rfl⟩

end Sys2Proof.Tests
end

section
/-! Proofs of the family of 10_state.md: the byte of P that PHP, BRK, NMI and IRQ push (R35), and bit 5 of P (R34). -/

namespace Sys2Proof.Proofs

open Sys2Proof Sys2Proof.Machine Sys2Proof.Spec

/-! ### The unused bit of every byte P is read as -/

/-- A byte with bit 5 or'ed in has bit 5 = 1. -/
theorem flagU_or {q : Byte} (p : Byte) (hq : flagU q = true) : flagU (p ||| q) = true := by
  simp only [flagU, BitVec.getLsbD_or] at hq ⊢
  rw [hq, Bool.or_true]

@[simp] theorem flagU_status (p : Byte) : flagU (status p) = true := flagU_or p rfl

@[simp] theorem flagU_statusPushedByBreak (p : Byte) : flagU (statusPushedByBreak p) = true := flagU_or p rfl

@[simp] theorem flagU_statusPushedByInterrupt (p : Byte) : flagU (statusPushedByInterrupt p) = true :=
  flagU_or (p &&& 0xEF) rfl

/-! ### Where the pushed status byte lands -/

/-- On a plain-RAM bus a push leaves its byte in the slot SP designated (R26). -/
theorem push_read_slot {s : State} (v : Byte) (h : PlainRam s) : Memory.read (push v s).mem (slot s.sp) = v := by
  obtain ⟨hscript, hwf⟩ := h
  rw [slot, ← stackAddr_toNat]
  exact push_read_same v hscript hwf

/-- A pushed word leaves the bus plain RAM. -/
theorem plainRam_pushWord {s : State} (w : Addr) (h : PlainRam s) : PlainRam (pushWord w s) := by
  obtain ⟨hscript, hwf⟩ := h
  exact ⟨by simp [hscript], pushWord_wf w hwf⟩

/-- A handler entry pushes the status byte third, after the two bytes of the return address (60_exceptions.md R222). -/
theorem enterHandler_read_slot {s : State} (ret : Addr) (q : Byte) (vec : Addr) (h : PlainRam s) :
    Memory.read (enterHandler ret q vec s).mem (slot (s.sp - 2)) = q := by
  have hsp : s.sp - 2 = (pushWord ret s).sp := by rw [pushWord_sp, BitVec.sub_sub]; rfl
  rw [enterHandler_mem, hsp]
  exact push_read_slot q (plainRam_pushWord ret h)

/-! ### Who pushes P, and what the slot holds then -/

/-- The BRK arm: the handler entry of R222 with PC + 2 and P as a break pushes it (R181). -/
theorem exec_brk (s : State) :
    exec .brk s = .next { enterHandler (s.pc + 2) (statusPushedByBreak s.p) Config.irqVector s with
      returned := .cycles (baseCycles 0x00) } := rfl

/-- PHP pushes P as a break does (R35, R171). -/
theorem php_pushes_status {s : State} (h : PlainRam s) :
    ∃ t, exec .php s = .next t ∧ Memory.read t.mem (slot s.sp) = statusPushedByBreak s.p :=
  ⟨retire 0x08 false (pushP s), rfl, push_read_slot _ h⟩

/-- BRK pushes P as a break does (R35, R181). -/
theorem brk_pushes_status {s : State} (h : PlainRam s) :
    ∃ t, exec .brk s = .next t ∧ Memory.read t.mem (slot (s.sp - 2)) = statusPushedByBreak s.p := by
  refine ⟨_, exec_brk s, ?_⟩
  rw [enterHandler_read_slot (s.pc + 2) (statusPushedByBreak s.p) Config.irqVector h]

/-- The entry that `nmi()` and a taken `irq()` share pushes P as an interrupt does (R35, R215, R216). -/
theorem interruptEntry_pushes_status {s : State} (vec : Addr) (h : PlainRam s) :
    Memory.read (interruptEntry vec (beginCall s)).mem (slot (s.sp - 2)) = statusPushedByInterrupt s.p := by
  rw [interruptEntry_mem]
  exact enterHandler_read_slot (s := beginCall s) s.pc (statusPushedByInterrupt s.p) vec h

theorem nmi_pushes_status {s : State} (h : PlainRam s) (hrun : s.halted = none) (hpc : s.pcValid = true) :
    ∃ t, nmi s = .next t ∧ Memory.read t.mem (slot (s.sp - 2)) = statusPushedByInterrupt s.p :=
  ⟨_, nmi_running hrun hpc, interruptEntry_pushes_status _ h⟩

theorem irq_pushes_status {s : State} (h : PlainRam s) (hrun : s.halted = none) (hpc : s.pcValid = true)
    (hi : flagI s.p = false) :
    ∃ t, irq s = .next t ∧ Memory.read t.mem (slot (s.sp - 2)) = statusPushedByInterrupt s.p :=
  ⟨_, irq_taken hrun hpc hi, interruptEntry_pushes_status _ h⟩

/-- Settles O34: PHP pushes into the slot SP designates, the three handler entries into the third slot down, each the
byte of R35. -/
theorem pushedStatusShowsWhoPushed : Obligations.PushedStatusShowsWhoPushed := fun _ h =>
  ⟨php_pushes_status h, brk_pushes_status h, fun hrun hpc =>
    ⟨nmi_pushes_status h hrun hpc, irq_pushes_status h hrun hpc⟩⟩

/-! ### Bit 5 wherever P is written as a whole, pushed or reported -/

/-- PLP forces bit 5 to 1 (R34, R173). -/
theorem plp_sets_unused {s : State} : ∃ t, exec .plp s = .next t ∧ flagU t.p = true :=
  ⟨retire 0x28 false (pullP s), rfl, flagU_statusPulledByPlp (pull s).1 s.p⟩

/-- RTI forces bit 5 to 1 (R34, R182). -/
theorem rti_sets_unused {s : State} : ∃ t, exec .rti s = .next t ∧ flagU t.p = true :=
  ⟨_, rfl, flagU_statusPulledByRti (pull s).1⟩

/-- `get_registers()` reports bit 5 as 1 (R34, R37). -/
theorem getRegisters_reports_unused {s : State} :
    ∃ t r, getRegisters s = .next t ∧ t.returned = .registers r ∧ flagU r.p = true :=
  ⟨_, s.registers, rfl, rfl, flagU_status s.p⟩

/-- A call that leaves at an address a byte with U = 1 leaves bit 5 of that byte of memory 1. -/
theorem unused_of_pushed {out : Out} {a : Nat} {q : Byte} (hq : flagU q = true)
    (h : ∃ t, out = .next t ∧ Memory.read t.mem a = q) :
    ∃ t, out = .next t ∧ (Memory.read t.mem a).getLsbD 5 = true := by
  obtain ⟨t, hnext, hread⟩ := h
  exact ⟨t, hnext, hread ▸ hq⟩

/-- Settles O35: PLP, RTI and the report by the laws of the status byte, each push by the byte O34 says it pushes. -/
theorem unusedStatusBitReadsAsOne : Obligations.UnusedStatusBitReadsAsOne := by
  intro s
  refine ⟨plp_sets_unused, rti_sets_unused, getRegisters_reports_unused, fun h => ⟨?php, ?brk, fun hrun hpc =>
    ⟨?nmi, fun hi => ?irq⟩⟩⟩
  case php =>
    have hslot : s.sp - 0 = s.sp := BitVec.sub_zero s.sp
    simpa only [hslot] using unused_of_pushed (flagU_statusPushedByBreak s.p) (php_pushes_status h)
  case brk => exact unused_of_pushed (flagU_statusPushedByBreak s.p) (brk_pushes_status h)
  case nmi => exact unused_of_pushed (flagU_statusPushedByInterrupt s.p) (nmi_pushes_status h hrun hpc)
  case irq => exact unused_of_pushed (flagU_statusPushedByInterrupt s.p) (irq_pushes_status h hrun hpc hi)

end Sys2Proof.Proofs
end

section
/-! Proofs of the family of 41_load_store_transfer.md: what STA, STX and STY store (R103 to R105), what TAX, TAY, TXA,
TYA and TSX copy (R106 to R110). Before them, for every family: what an instruction that moves PC past its bytes owes
to `Runs`, and the store class and the implied class as wholes. -/

namespace Sys2Proof.Proofs

open Sys2Proof Sys2Proof.Machine Sys2Proof.Spec

/-! ### A row of the statements and the model's own table -/

/-- The encoder and the descriptor table say of the row's instruction what the row says. -/
structure RowAgrees (row : FormRow) : Prop where
  opcode : row.instr.opcode = row.opcode
  length : (encode row.instr).length = row.length
  size : (descriptor row.opcode).size = row.length
  cycles : baseCycles row.opcode = row.cycles
  pageCross : (descriptor row.opcode).pageCross = row.plusIfCrossed

/-- A row written out agrees when its entries are those of the encoder and of the descriptor of its opcode. -/
theorem RowAgrees.of {i : Instr} {op : Byte} {length cycles : Nat} {plus : Bool} (hop : i.opcode = op)
    (hlength : (encode i).length = length) (hsize : (descriptor op).size = length) (hcycles : baseCycles op = cycles)
    (hplus : (descriptor op).pageCross = plus) : RowAgrees ⟨i, op, length, cycles, plus⟩ :=
  ⟨hop, hlength, hsize, hcycles, hplus⟩

/-- The count of a row's opcode is the one `Runs` asks for. -/
theorem RowAgrees.cyclesOf_eq {row : FormRow} (h : RowAgrees row) (crossed : Bool) :
    cyclesOf row.opcode crossed = row.cycles + if row.plusIfCrossed && crossed then 1 else 0 := by
  rw [cyclesOf, h.cycles, h.pageCross]

/-- An instruction that retires from a state with PC and everything of `SameControl` as before runs as its row says. -/
theorem runs_of_retire {row : FormRow} {crossed : Bool} {s u : State} {post : State → Prop} (hrow : RowAgrees row)
    (hexec : exec row.instr s = .next (retire row.opcode crossed u)) (hpc : u.pc = s.pc) (hcontrol : SameControl s u)
    (hpost : post (retire row.opcode crossed u)) : Runs row crossed s post := by
  refine ⟨hrow.opcode, hrow.length, _, hexec, ?count, hcontrol, ?pc, hpost⟩
  case count => rw [retire_returned, hrow.cyclesOf_eq]
  case pc => rw [retire_pc, hpc, hrow.size]

/-! ### The store class -/

/-- The resolver leaves everything of `SameControl` alone. -/
theorem sameControl_resolve (m : MemOperand) (s : State) : SameControl s (resolve m s).state :=
  ⟨resolve_halted m s, resolve_pcValid m s, resolve_calls m s⟩

/-- The resolver changes no register. -/
theorem sameRegisters_resolve (m : MemOperand) (s : State) : SameRegisters s (resolve m s).state :=
  ⟨resolve_a m s, resolve_x m s, resolve_y m s, resolve_sp m s⟩

/-- The resolver leaves a plain-RAM bus plain. -/
theorem plainRam_resolve {s : State} (m : MemOperand) (h : PlainRam s) : PlainRam (resolve m s).state := by
  obtain ⟨hscript, hwf⟩ := h
  exact ⟨resolve_script m hscript, by rwa [resolve_mem]⟩

/-- A bus write made after the resolver's reads is the one write of `WritesByte`. -/
theorem writesByte_busWrite_resolve (m : MemOperand) (a : Addr) (v : Byte) (s : State) :
    WritesByte a v s (resolve m s).state (busWrite a v (resolve m s).state) := by
  refine ⟨busWrite_accesses a v _, fun hram => ?same, fun b hb => ?other⟩
  case same =>
    obtain ⟨hscript, hwf⟩ := plainRam_resolve m hram
    exact busWrite_read_same a v hscript hwf
  case other => rw [busWrite_read_other a v _ (mt List.mem_singleton.mpr hb), resolve_mem]

/-- The row's instruction is the store of `value` at the memory operand `m`. -/
structure StoreRow (value : State → Byte) (m : MemOperand) (row : FormRow) : Prop where
  agrees : RowAgrees row
  exec_eq : ∀ s, exec row.instr s = storeClass row.opcode m value s

/-- Rows of the store class make their one write, of a value that the resolver's pointer reads do not change. -/
theorem storesThen_of_storeRow {rows : MemOperand → List FormRow} {value : State → Byte}
    (hrows : ∀ m, ∀ row ∈ rows m, StoreRow value m row) (hvalue : ∀ m s, value (resolve m s).state = value s) :
    StoresThen rows value := by
  intro s m row hrow
  obtain ⟨hagrees, hexec⟩ := hrows m row hrow
  refine runs_of_retire hagrees (hexec s) (resolve_pc m s) (sameControl_resolve m s) ?_
  rw [hvalue]
  exact ⟨sameRegisters_resolve m s, resolve_p m s, writesByte_busWrite_resolve m _ _ s⟩

/-- The forms of STA store A, each at its own operand (R103). -/
theorem staRows_store : ∀ m, ∀ row ∈ staRows m, StoreRow State.a m row
  | .indirectX _ | .zeroPage _ | .absolute _ | .indirectY _ | .zeroPageX _ | .absoluteY _ | .absoluteX _ =>
    List.forall_mem_singleton.mpr ⟨.of rfl rfl rfl rfl rfl, fun _ => rfl⟩
  | .zeroPageY _ => List.forall_mem_nil _

/-- The forms of STX store X, each at its own operand (R104). -/
theorem stxRows_store : ∀ m, ∀ row ∈ stxRows m, StoreRow State.x m row
  | .zeroPage _ | .absolute _ | .zeroPageY _ =>
    List.forall_mem_singleton.mpr ⟨.of rfl rfl rfl rfl rfl, fun _ => rfl⟩
  | .zeroPageX _ | .absoluteX _ | .absoluteY _ | .indirectX _ | .indirectY _ => List.forall_mem_nil _

/-- The forms of STY store Y, each at its own operand (R105). -/
theorem styRows_store : ∀ m, ∀ row ∈ styRows m, StoreRow State.y m row
  | .zeroPage _ | .absolute _ | .zeroPageX _ =>
    List.forall_mem_singleton.mpr ⟨.of rfl rfl rfl rfl rfl, fun _ => rfl⟩
  | .zeroPageY _ | .absoluteX _ | .absoluteY _ | .indirectX _ | .indirectY _ => List.forall_mem_nil _

/-- Settles O2: every form is a store-class instruction of its register, and the resolver changes no register. -/
theorem storesWriteTheRegister : Obligations.StoresWriteTheRegister :=
  ⟨storesThen_of_storeRow staRows_store resolve_a, storesThen_of_storeRow stxRows_store resolve_x,
    storesThen_of_storeRow styRows_store resolve_y⟩

/-! ### The implied class without an access -/

/-- PC, everything of `SameControl`, memory and the bus are as before: registers and P may differ. -/
structure SameSurroundings (s t : State) : Prop where
  pc : t.pc = s.pc
  control : SameControl s t
  memory : SameMemory s t
  bus : SameBus s t

/-- A row of the implied class whose effect is on registers and P makes no access. -/
theorem impliedThen_of_effect {row : FormRow} {effect : State → State} {post : State → State → Prop}
    (hrow : RowAgrees row) (hexec : ∀ s, exec row.instr s = impliedClass row.opcode effect s)
    (heffect : ∀ s, SameSurroundings s (effect s)) (hpost : ∀ s, post s (retire row.opcode false (effect s))) :
    ImpliedThen row post := by
  intro s
  obtain ⟨hpc, hcontrol, hmemory, hbus⟩ := heffect s
  exact runs_of_retire hrow (hexec s) hpc hcontrol ⟨hpost s, hmemory, hbus⟩

/-! ### Z and N from a byte -/

/-- P after `setZN` has Z and N of the byte (R28). -/
theorem zeroNegativeOf_setZN {v q : Byte} {t : State} (h : t.p = setZN v q) : ZeroNegativeOf v t := by
  rw [ZeroNegativeOf, h, flagZ_setZN, flagN_setZN, beq_iff_eq]
  exact ⟨Iff.rfl, rfl⟩

/-- P after `setZN` differs in bits 1 and 7 at most (R28). -/
theorem sameFlagsBut_setZN {v : Byte} {s t : State} (h : t.p = setZN v s.p) : SameFlagsBut [1, 7] s t := by
  intro k _ hk
  simp only [List.mem_cons, List.not_mem_nil, or_false, not_or] at hk
  obtain ⟨hz, hn⟩ := hk
  rw [h, setZN_getLsbD, if_neg hn, if_neg hz]

/-- Where P is `setZN` of the byte and the registers are as said, `SetsZN` holds. -/
theorem setsZN_of_setZN {v : Byte} {regs : Prop} {s t : State} (hp : t.p = setZN v s.p) (hregs : regs) :
    SetsZN v regs s t :=
  ⟨zeroNegativeOf_setZN hp, sameFlagsBut_setZN hp, hregs⟩

/-- An implied instruction that puts its new registers in place and sets Z and N from a byte, and does nothing else. -/
theorem impliedThen_setsZN {row : FormRow} {effect : State → State} {v : State → Byte} {regs : State → State → Prop}
    (hrow : RowAgrees row) (hexec : ∀ s, exec row.instr s = impliedClass row.opcode effect s)
    (heffect : ∀ s, SameSurroundings s (effect s)) (hp : ∀ s, (effect s).p = setZN (v s) s.p)
    (hregs : ∀ s, regs s (retire row.opcode false (effect s))) :
    ImpliedThen row fun s t => SetsZN (v s) (regs s t) s t :=
  impliedThen_of_effect hrow hexec heffect fun s => setsZN_of_setZN (hp s) (hregs s)

/-! ### The transfers -/

/-- A transfer from `source` to X is the load of X with the source's byte. -/
theorem impliedThen_loadX {row : FormRow} (source : State → Byte) (hrow : RowAgrees row)
    (hexec : ∀ s, exec row.instr s = impliedClass row.opcode (fun s => loadX (source s) s) s) :
    ImpliedThen row fun s t => SetsZN (source s) (t.x = source s ∧ t.a = s.a ∧ t.y = s.y ∧ t.sp = s.sp) s t :=
  impliedThen_setsZN hrow hexec (fun _ => ⟨rfl, ⟨rfl, rfl, rfl⟩, fun _ => rfl, rfl, rfl⟩) (fun _ => rfl)
    fun _ => ⟨rfl, rfl, rfl, rfl⟩

/-- A transfer from `source` to Y is the load of Y with the source's byte. -/
theorem impliedThen_loadY {row : FormRow} (source : State → Byte) (hrow : RowAgrees row)
    (hexec : ∀ s, exec row.instr s = impliedClass row.opcode (fun s => loadY (source s) s) s) :
    ImpliedThen row fun s t => SetsZN (source s) (t.y = source s ∧ t.a = s.a ∧ t.x = s.x ∧ t.sp = s.sp) s t :=
  impliedThen_setsZN hrow hexec (fun _ => ⟨rfl, ⟨rfl, rfl, rfl⟩, fun _ => rfl, rfl, rfl⟩) (fun _ => rfl)
    fun _ => ⟨rfl, rfl, rfl, rfl⟩

/-- A transfer from `source` to A is the load of A with the source's byte. -/
theorem impliedThen_loadA {row : FormRow} (source : State → Byte) (hrow : RowAgrees row)
    (hexec : ∀ s, exec row.instr s = impliedClass row.opcode (fun s => loadA (source s) s) s) :
    ImpliedThen row fun s t => SetsZN (source s) (t.a = source s ∧ t.x = s.x ∧ t.y = s.y ∧ t.sp = s.sp) s t :=
  impliedThen_setsZN hrow hexec (fun _ => ⟨rfl, ⟨rfl, rfl, rfl⟩, fun _ => rfl, rfl, rfl⟩) (fun _ => rfl)
    fun _ => ⟨rfl, rfl, rfl, rfl⟩

/-- Settles O3: each transfer is the load of its target register with its source register's byte. -/
theorem transfersCopyAndSetZN : Obligations.TransfersCopyAndSetZN := by
  refine ⟨?tax, ?tay, ?txa, ?tya, ?tsx⟩
  case tax => exact impliedThen_loadX State.a (.of rfl rfl rfl rfl rfl) fun _ => rfl
  case tay => exact impliedThen_loadY State.a (.of rfl rfl rfl rfl rfl) fun _ => rfl
  case txa => exact impliedThen_loadA State.x (.of rfl rfl rfl rfl rfl) fun _ => rfl
  case tya => exact impliedThen_loadA State.y (.of rfl rfl rfl rfl rfl) fun _ => rfl
  case tsx => exact impliedThen_loadX State.sp (.of rfl rfl rfl rfl rfl) fun _ => rfl

end Sys2Proof.Proofs
end

section
/-! Proofs of the family of 42_arithmetic_logic.md: what BIT tests (R130), what INC and DEC write back (R131, R132),
what INX, INY, DEX and DEY count (R133 to R136). Before them, for every family: the state after the data read, the read class
and the RMW class as wholes. -/

namespace Sys2Proof.Proofs

open Sys2Proof Sys2Proof.Machine Sys2Proof.Spec

/-! ### The state after the data read -/

/-- A, X, Y, SP and P are as before: everything that an effect computes from besides its operand byte. -/
structure SameRegisterFile (s t : State) : Prop where
  registers : SameRegisters s t
  p : t.p = s.p

theorem sameRegisterFile_operand (m : MemOperand) (s : State) : SameRegisterFile s (operand m s).2 :=
  ⟨sameRegisters_resolve m s, resolve_p m s⟩

theorem sameControl_operand (m : MemOperand) (s : State) : SameControl s (operand m s).2 :=
  sameControl_resolve m s

@[simp] theorem operand_pc (m : MemOperand) (s : State) : (operand m s).2.pc = s.pc := resolve_pc m s

@[simp] theorem operand_mem (m : MemOperand) (s : State) : (operand m s).2.mem = s.mem := resolve_mem m s

theorem plainRam_operand {s : State} (m : MemOperand) (h : PlainRam s) : PlainRam (operand m s).2 := by
  obtain ⟨hscript, hwf⟩ := h
  exact ⟨by rw [operand, busRead_script, resolve_script m hscript]; rfl, by rwa [operand_mem]⟩

theorem sameControl_trans {s u t : State} (hsu : SameControl s u) (hut : SameControl u t) : SameControl s t := by
  obtain ⟨hhalted, hpcValid, hcalls⟩ := hsu
  obtain ⟨hhalted', hpcValid', hcalls'⟩ := hut
  exact ⟨hhalted'.trans hhalted, hpcValid'.trans hpcValid, hcalls'.trans hcalls⟩

theorem sameRegisters_trans {s u t : State} (hsu : SameRegisters s u) (hut : SameRegisters u t) :
    SameRegisters s t := by
  obtain ⟨ha, hx, hy, hsp⟩ := hsu
  obtain ⟨ha', hx', hy', hsp'⟩ := hut
  exact ⟨ha'.trans ha, hx'.trans hx, hy'.trans hy, hsp'.trans hsp⟩

/-! ### The read class -/

/-- The row's instruction reads the memory operand `m` and has `effect`. -/
structure ReadRow (effect : Byte → State → State) (m : MemOperand) (row : FormRow) : Prop where
  agrees : RowAgrees row
  exec_eq : ∀ s, exec row.instr s = readClass row.opcode m effect s

/-- Rows of the read class make their one data read and no other access, and meet every `post` about the registers and P
that their effect brings about from registers and P as they were. -/
theorem readsThen_of_readRow {rows : MemOperand → List FormRow} {effect : Byte → State → State}
    {post : Byte → State → State → Prop} (hrows : ∀ m, ∀ row ∈ rows m, ReadRow effect m row)
    (heffect : ∀ v u, SameSurroundings u (effect v u))
    (hpost : ∀ v s u t, SameRegisterFile s u → SameRegisterFile (effect v u) t → post v s t) :
    ReadsThen rows post := by
  intro s m row hrow
  obtain ⟨hagrees, hexec⟩ := hrows m row hrow
  obtain ⟨hpc, hcontrol, hmemory, hbus⟩ := heffect (operand m s).1 (operand m s).2
  refine runs_of_retire hagrees (hexec s) (hpc.trans (operand_pc m s))
    (sameControl_trans (sameControl_operand m s) hcontrol) ⟨?post, ?memory, hbus⟩
  case post => exact hpost _ s _ _ (sameRegisterFile_operand m s) ⟨⟨rfl, rfl, rfl, rfl⟩, rfl⟩
  case memory => exact fun b => (hmemory b).trans (by rw [operand_mem])

/-! ### BIT -/

/-- P after `setBitTest` differs in bits 1, 6 and 7 at most (R130). -/
theorem sameFlagsBut_setBitTest {a m : Byte} {s t : State} (h : t.p = setBitTest a m s.p) :
    SameFlagsBut [1, 6, 7] s t := by
  intro k _ hk
  simp only [List.mem_cons, List.not_mem_nil, or_false, not_or] at hk
  obtain ⟨hz, hv, hn⟩ := hk
  rw [h, setBitTest_getLsbD, if_neg hv, if_neg hn, if_neg hz]

/-- The forms of BIT test the byte they read against A, each at its own operand (R130). -/
theorem bitRows_read : ∀ m, ∀ row ∈ bitRows m, ReadRow bitA m row
  | .zeroPage _ | .absolute _ => List.forall_mem_singleton.mpr ⟨.of rfl rfl rfl rfl rfl, fun _ => rfl⟩
  | .zeroPageX _ | .zeroPageY _ | .absoluteX _ | .absoluteY _ | .indirectX _ | .indirectY _ => List.forall_mem_nil _

/-- Settles O9: every form is a read-class instruction whose effect puts the bit test of A and the byte into P. -/
theorem bitTestsAgainstA : Obligations.BitTestsAgainstA := by
  refine readsThen_of_readRow bitRows_read (fun _ _ => ⟨rfl, ⟨rfl, rfl, rfl⟩, fun _ => rfl, rfl, rfl⟩) ?_
  intro v s u t hu ht
  have ⟨ha, _⟩ := hu.registers
  have hp : t.p = setBitTest s.a v s.p := by rw [ht.p, bitA, ha, hu.p]
  refine ⟨?zero, ?negative, ?overflow, sameFlagsBut_setBitTest hp, sameRegisters_trans hu.registers ht.registers⟩
  case zero => rw [hp, flagZ_setBitTest, beq_iff_eq]
  case negative => rw [hp, flagN_setBitTest]
  case overflow => rw [hp, flagV_setBitTest]

/-! ### The RMW class -/

/-- A read-modify-write step whose new byte and new P come from the byte read and P alone. -/
def statusStep (new flags : Byte → Byte → Byte) (v : Byte) (s : State) : Byte × State :=
  (new v s.p, { s with p := flags v s.p })

/-- The row's instruction reads the memory operand `m` and writes it back by the step of `new` and `flags`. -/
structure ModifyRow (new flags : Byte → Byte → Byte) (m : MemOperand) (row : FormRow) : Prop where
  agrees : RowAgrees row
  exec_eq : ∀ s, exec row.instr s = modifyClass row.opcode m (statusStep new flags) s

/-- A bus write from a state `u` with the memory of `s` and the access record of `r` makes `WritesByte`. -/
theorem writesByte_busWrite {s r u : State} (a : Addr) (v : Byte) (hram : PlainRam s → PlainRam u)
    (hmem : u.mem = s.mem) (haccesses : u.accesses = r.accesses) : WritesByte a v s r (busWrite a v u) := by
  refine ⟨by rw [busWrite_accesses, haccesses], fun h => ?same, fun b hb => ?other⟩
  case same =>
    obtain ⟨hscript, hwf⟩ := hram h
    exact busWrite_read_same a v hscript hwf
  case other => rw [busWrite_read_other a v u (mt List.mem_singleton.mpr hb), hmem]

/-- Rows of the RMW class write the new byte where they read the old one, change no register, and put `flags` of the
byte read into P. -/
theorem modifiesThen_of_modifyRow {rows : MemOperand → List FormRow} {new flags : Byte → Byte → Byte}
    {post : Byte → State → State → Prop} (hrows : ∀ m, ∀ row ∈ rows m, ModifyRow new flags m row)
    (hpost : ∀ v s t, SameRegisters s t → t.p = flags v s.p → post v s t) :
    ModifiesThen rows (fun v s => new v s.p) post := by
  intro s m row hrow
  obtain ⟨hagrees, hexec⟩ := hrows m row hrow
  obtain ⟨hregisters, hp⟩ := sameRegisterFile_operand m s
  refine runs_of_retire hagrees (hexec s) (operand_pc m s) (sameControl_operand m s) ⟨?post, ?write⟩
  case post => exact hpost _ s _ hregisters (congrArg (flags (operand m s).1) hp)
  case write =>
    beta_reduce
    rw [← hp]
    exact writesByte_busWrite _ _ (plainRam_operand m) (operand_mem m s) rfl

/-- An RMW row whose P is `setZN` of the new byte meets `SetsZN` with every register unchanged. -/
theorem modifiesThen_setsZN {rows : MemOperand → List FormRow} {new : Byte → Byte}
    (hrows : ∀ m, ∀ row ∈ rows m, ModifyRow (fun v _ => new v) (fun v => setZN (new v)) m row) :
    ModifiesThen rows (fun v _ => new v) fun v s t => SetsZN (new v) (SameRegisters s t) s t :=
  modifiesThen_of_modifyRow hrows fun _ _ _ hregisters hp => setsZN_of_setZN hp hregisters

/-! ### INC and DEC -/

/-- The forms of INC write back the byte one up, each at its own operand (R131). -/
theorem incRows_modify : ∀ m, ∀ row ∈ incRows m, ModifyRow (fun v _ => v + 1) (fun v => setZN (v + 1)) m row
  | .zeroPage _ | .absolute _ | .zeroPageX _ | .absoluteX _ =>
    List.forall_mem_singleton.mpr ⟨.of rfl rfl rfl rfl rfl, fun _ => rfl⟩
  | .zeroPageY _ | .absoluteY _ | .indirectX _ | .indirectY _ => List.forall_mem_nil _

/-- The forms of DEC write back the byte one down, each at its own operand (R132). -/
theorem decRows_modify : ∀ m, ∀ row ∈ decRows m, ModifyRow (fun v _ => v - 1) (fun v => setZN (v - 1)) m row
  | .zeroPage _ | .absolute _ | .zeroPageX _ | .absoluteX _ =>
    List.forall_mem_singleton.mpr ⟨.of rfl rfl rfl rfl rfl, fun _ => rfl⟩
  | .zeroPageY _ | .absoluteY _ | .indirectX _ | .indirectY _ => List.forall_mem_nil _

/-- Settles O10: every form is an RMW-class instruction whose step counts the byte and sets Z and N from the new one. -/
theorem incAndDecModifyMemory : Obligations.IncAndDecModifyMemory :=
  ⟨modifiesThen_setsZN (new := (· + 1)) incRows_modify, modifiesThen_setsZN (new := (· - 1)) decRows_modify⟩

/-! ### The counters -/

/-- Settles O11: each counter is the load of its own register with the register's byte one up or one down. -/
theorem countersStepXAndY : Obligations.CountersStepXAndY := by
  refine ⟨?inx, ?iny, ?dex, ?dey⟩
  case inx => exact impliedThen_loadX (fun s => s.x + 1) (.of rfl rfl rfl rfl rfl) fun _ => rfl
  case iny => exact impliedThen_loadY (fun s => s.y + 1) (.of rfl rfl rfl rfl rfl) fun _ => rfl
  case dex => exact impliedThen_loadX (fun s => s.x - 1) (.of rfl rfl rfl rfl rfl) fun _ => rfl
  case dey => exact impliedThen_loadY (fun s => s.y - 1) (.of rfl rfl rfl rfl rfl) fun _ => rfl

end Sys2Proof.Proofs
end

section
/-! Proofs of the family of 43_shift_rotate.md: what ASL, LSR, ROL and ROR make of a byte in A or in memory (R140 to R143).
Before them, for every family: the new byte of each shift as arithmetic, and the Accumulator form as a whole. -/

namespace Sys2Proof.Proofs

open Sys2Proof Sys2Proof.Machine Sys2Proof.Spec

/-! ### The new bytes, as the model shifts them and as arithmetic -/

/-- ASL's new byte; the last argument, of each of the four, is P. -/
def aslByte (v _ : Byte) : Byte := v <<< 1

/-- LSR's new byte. -/
def lsrByte (v _ : Byte) : Byte := v >>> 1

/-- ROL's new byte. -/
def rolByte (v p : Byte) : Byte := v <<< 1 ||| bit (flagC p) 0

/-- ROR's new byte. -/
def rorByte (v p : Byte) : Byte := v >>> 1 ||| bit (flagC p) 7

theorem bit_getLsbD (b : Bool) {i : Nat} (hi : i < 8) (k : Nat) : (bit b i).getLsbD k = (b && decide (k = i)) := by
  cases b
  case false => exact BitVec.getLsbD_zero
  case true => exact one_shiftLeft_getLsbD i k hi

/-- A bit at place `i` weighs 2 to the `i`. -/
theorem bit_eq_ofNat (b : Bool) (i : Nat) : bit b i = BitVec.ofNat 8 (2 ^ i * b.toNat) := by
  cases b
  case false => rfl
  case true => simp [bit, BitVec.toNat_eq, Nat.shiftLeft_eq]

/-- Or-ing a bit into a place that holds 0 adds it. -/
theorem or_bit_eq_add {x : Byte} (b : Bool) {i : Nat} (hi : i < 8) (hx : x.getLsbD i = false) :
    x ||| bit b i = x + bit b i := by
  refine (BitVec.add_eq_or_of_and_eq_zero x (bit b i) (BitVec.eq_of_getLsbD_eq fun k _ => ?_)).symm
  rw [BitVec.getLsbD_and, bit_getLsbD b hi, BitVec.getLsbD_zero]
  by_cases hk : k = i
  case pos => rw [hk, hx, Bool.false_and]
  case neg => rw [decide_eq_false hk, Bool.and_false, Bool.and_false]

/-- One place to the left is twice the byte (R140). -/
theorem aslByte_eq (v p : Byte) : aslByte v p = BitVec.ofNat 8 (2 * v.toNat) := by
  apply BitVec.eq_of_toNat_eq
  rw [aslByte, BitVec.toNat_shiftLeft, BitVec.toNat_ofNat, Nat.shiftLeft_eq]
  omega

/-- One place to the right is half the byte (R141). -/
theorem lsrByte_eq (v p : Byte) : lsrByte v p = BitVec.ofNat 8 (v.toNat / 2) := by
  apply BitVec.eq_of_toNat_eq
  rw [lsrByte, BitVec.toNat_ushiftRight, Nat.shiftRight_eq_div_pow, BitVec.toNat_ofNat]
  omega

/-- A byte shifted left has bit 0 clear. -/
theorem aslByte_getLsbD_zero (v p : Byte) : (aslByte v p).getLsbD 0 = false := by
  rw [aslByte, BitVec.getLsbD_shiftLeft]
  rfl

/-- A byte shifted right has bit 7 clear (R141). -/
theorem lsrByte_getLsbD_seven (v p : Byte) : (lsrByte v p).getLsbD 7 = false := by
  rw [lsrByte, BitVec.getLsbD_ushiftRight]
  exact BitVec.getLsbD_of_ge v 8 (Nat.le_refl 8)

/-- ROL adds the carry to the doubled byte (R142). -/
theorem rolByte_eq (v p : Byte) : rolByte v p = BitVec.ofNat 8 (2 * v.toNat + (flagC p).toNat) :=
  calc
    rolByte v p = aslByte v p + bit (flagC p) 0 := or_bit_eq_add (flagC p) (by decide) (aslByte_getLsbD_zero v p)
    _ = BitVec.ofNat 8 (2 * v.toNat) + BitVec.ofNat 8 (2 ^ 0 * (flagC p).toNat) := by rw [aslByte_eq, bit_eq_ofNat]
    _ = BitVec.ofNat 8 (2 * v.toNat + (flagC p).toNat) := by rw [← BitVec.ofNat_add, Nat.pow_zero, Nat.one_mul]

/-- ROR adds the carry's 128 to the halved byte (R143). -/
theorem rorByte_eq (v p : Byte) : rorByte v p = BitVec.ofNat 8 (v.toNat / 2 + 128 * (flagC p).toNat) :=
  calc
    rorByte v p = lsrByte v p + bit (flagC p) 7 := or_bit_eq_add (flagC p) (by decide) (lsrByte_getLsbD_seven v p)
    _ = BitVec.ofNat 8 (v.toNat / 2) + BitVec.ofNat 8 (2 ^ 7 * (flagC p).toNat) := by rw [lsrByte_eq, bit_eq_ofNat]
    _ = BitVec.ofNat 8 (v.toNat / 2 + 128 * (flagC p).toNat) := (BitVec.ofNat_add _ _).symm

/-! ### The flags of a shift -/

/-- P after a shift: C is bit `out` of the old byte, Z and N are the new byte's. -/
def shiftStatus (new : Byte → Byte → Byte) (out : Nat) (v p : Byte) : Byte :=
  setZN (new v p) (setC (v.getLsbD out) p)

/-- `shiftStatus` of a new byte meets the statements' `ShiftFlags` of the same byte. -/
theorem shiftFlags_of_shiftStatus {new : Byte → Byte → Byte} {spec : Byte → State → Byte} {out : Nat} {v : Byte}
    {s t : State} (hspec : new v s.p = spec v s) (hp : t.p = shiftStatus new out v s.p) :
    ShiftFlags spec out v s t := by
  refine ⟨?carry, ?zeroNegative, ?others⟩
  case carry => rw [hp, shiftStatus, flagC_setZN, flagC_setC]
  case zeroNegative =>
    rw [← hspec]
    exact zeroNegativeOf_setZN hp
  case others =>
    intro k _ hk
    simp only [List.mem_cons, List.not_mem_nil, or_false, not_or] at hk
    obtain ⟨hc, hz, hn⟩ := hk
    rw [hp, shiftStatus, setZN_getLsbD, if_neg hn, if_neg hz, setC_getLsbD, if_neg hc]

/-! ### The Accumulator form -/

/-- A row in Accumulator mode whose new byte and new P come from A and P alone changes nothing else and makes no access. -/
theorem accumulatorThen_of_step {row : FormRow} {new flags : Byte → Byte → Byte} {post : Byte → State → State → Prop}
    (hrow : RowAgrees row) (hexec : ∀ s, exec row.instr s = accumulatorClass row.opcode (statusStep new flags) s)
    (hpost : ∀ v s t, t.p = flags v s.p → post v s t) : AccumulatorThen row (fun v s => new v s.p) post :=
  fun s => runs_of_retire hrow (hexec s) rfl ⟨rfl, rfl, rfl⟩
    ⟨hpost s.a s _ rfl, rfl, rfl, rfl, rfl, fun _ => rfl, rfl, rfl⟩

/-! ### The shifts and rotates -/

/-- The row's instruction shifts the byte at the memory operand `m`. -/
abbrev ShiftRow (new : Byte → Byte → Byte) (out : Nat) : MemOperand → FormRow → Prop :=
  ModifyRow new (shiftStatus new out)

/-- Rows that shift a byte of memory write the new byte, set the flags of the shift and change no register. -/
theorem modifiesThen_shift {rows : MemOperand → List FormRow} {new : Byte → Byte → Byte} {spec : Byte → State → Byte}
    {out : Nat} (hrows : ∀ m, ∀ row ∈ rows m, ShiftRow new out m row) (hspec : ∀ v s, new v s.p = spec v s) :
    ModifiesThen rows spec fun v s t => ShiftFlags spec out v s t ∧ SameRegisters s t := by
  obtain rfl : (fun v s => new v s.p) = spec := funext fun v => funext (hspec v)
  exact modifiesThen_of_modifyRow hrows fun _ _ _ hregisters hp => ⟨shiftFlags_of_shiftStatus rfl hp, hregisters⟩

/-- A row that shifts A puts the new byte there and meets every `post` that the flags of the shift bring about. -/
theorem accumulatorThen_shift {row : FormRow} {new : Byte → Byte → Byte} {spec : Byte → State → Byte} {out : Nat}
    {post : Byte → State → State → Prop} (hrow : RowAgrees row)
    (hexec : ∀ s, exec row.instr s = accumulatorClass row.opcode (statusStep new (shiftStatus new out)) s)
    (hspec : ∀ v s, new v s.p = spec v s) (hpost : ∀ v s t, ShiftFlags spec out v s t → post v s t) :
    AccumulatorThen row spec post := by
  obtain rfl : (fun v s => new v s.p) = spec := funext fun v => funext (hspec v)
  exact accumulatorThen_of_step hrow hexec fun v s t hp => hpost v s t (shiftFlags_of_shiftStatus rfl hp)

/-- The forms of ASL, each at its own operand (R140). -/
theorem aslRows_shift : ∀ m, ∀ row ∈ aslRows m, ShiftRow aslByte 7 m row
  | .zeroPage _ | .absolute _ | .zeroPageX _ | .absoluteX _ =>
    List.forall_mem_singleton.mpr ⟨.of rfl rfl rfl rfl rfl, fun _ => rfl⟩
  | .zeroPageY _ | .absoluteY _ | .indirectX _ | .indirectY _ => List.forall_mem_nil _

/-- The forms of LSR, each at its own operand (R141). -/
theorem lsrRows_shift : ∀ m, ∀ row ∈ lsrRows m, ShiftRow lsrByte 0 m row
  | .zeroPage _ | .absolute _ | .zeroPageX _ | .absoluteX _ =>
    List.forall_mem_singleton.mpr ⟨.of rfl rfl rfl rfl rfl, fun _ => rfl⟩
  | .zeroPageY _ | .absoluteY _ | .indirectX _ | .indirectY _ => List.forall_mem_nil _

/-- The forms of ROL, each at its own operand (R142). -/
theorem rolRows_shift : ∀ m, ∀ row ∈ rolRows m, ShiftRow rolByte 7 m row
  | .zeroPage _ | .absolute _ | .zeroPageX _ | .absoluteX _ =>
    List.forall_mem_singleton.mpr ⟨.of rfl rfl rfl rfl rfl, fun _ => rfl⟩
  | .zeroPageY _ | .absoluteY _ | .indirectX _ | .indirectY _ => List.forall_mem_nil _

/-- The forms of ROR, each at its own operand (R143). -/
theorem rorRows_shift : ∀ m, ∀ row ∈ rorRows m, ShiftRow rorByte 0 m row
  | .zeroPage _ | .absolute _ | .zeroPageX _ | .absoluteX _ =>
    List.forall_mem_singleton.mpr ⟨.of rfl rfl rfl rfl rfl, fun _ => rfl⟩
  | .zeroPageY _ | .absoluteY _ | .indirectX _ | .indirectY _ => List.forall_mem_nil _

/-- After LSR N is 0, bit 7 of the new byte (R141). -/
theorem flagN_of_lsr {spec : Byte → State → Byte} {v : Byte} {s t : State} (h : ShiftFlags spec 0 v s t)
    (hspec : lsrByte v s.p = spec v s) : flagN t.p = false := by
  obtain ⟨_, ⟨_, hn⟩, _⟩ := h
  rw [hn, ← hspec, lsrByte_getLsbD_seven]

/-- Settles O15: every form shifts by the model's one-place shift, which doubles or halves the byte. -/
theorem shiftsMoveTheByteOneBit : Obligations.ShiftsMoveTheByteOneBit := by
  refine ⟨?asl, ?aslA, ?lsr, ?lsrA⟩
  case asl => exact modifiesThen_shift aslRows_shift fun v s => aslByte_eq v s.p
  case aslA =>
    exact accumulatorThen_shift (new := aslByte) (.of rfl rfl rfl rfl rfl) (fun _ => rfl)
      (fun v s => aslByte_eq v s.p) fun _ _ _ h => h
  case lsr => exact modifiesThen_shift lsrRows_shift fun v s => lsrByte_eq v s.p
  case lsrA =>
    exact accumulatorThen_shift (new := lsrByte) (.of rfl rfl rfl rfl rfl) (fun _ => rfl)
      (fun v s => lsrByte_eq v s.p) fun _ _ _ h => ⟨h, flagN_of_lsr h (lsrByte_eq _ _)⟩

/-- Settles O16: every form rotates by the model's one-place shift with the carry or'ed into the vacated bit, which adds
it there. -/
theorem rotatesPassThroughCarry : Obligations.RotatesPassThroughCarry := by
  refine ⟨?rol, ?rolA, ?ror, ?rorA⟩
  case rol => exact modifiesThen_shift rolRows_shift fun v s => rolByte_eq v s.p
  case rolA =>
    exact accumulatorThen_shift (new := rolByte) (.of rfl rfl rfl rfl rfl) (fun _ => rfl)
      (fun v s => rolByte_eq v s.p) fun _ _ _ h => h
  case ror => exact modifiesThen_shift rorRows_shift fun v s => rorByte_eq v s.p
  case rorA =>
    exact accumulatorThen_shift (new := rorByte) (.of rfl rfl rfl rfl rfl) (fun _ => rfl)
      (fun v s => rorByte_eq v s.p) fun _ _ _ h => h

end Sys2Proof.Proofs
end

section
/-! Proofs of the family of 44_control_transfer.md: what RTS pulls and where it continues (R161). Before it, for every
family: the bytes that `pull` and `pullWord` answer and the reads they record. -/

namespace Sys2Proof.Proofs

open Sys2Proof Sys2Proof.Machine Sys2Proof.Spec

/-! ### What a pull reads -/

/-- The model's address of SP's slot is the statements' (R25). -/
theorem stackAddr_eq_slot (sp : Byte) : stackAddr sp = BitVec.ofNat 16 (slot sp) := by
  rw [slot, ← stackAddr_toNat, BitVec.ofNat_toNat, BitVec.setWidth_eq]

/-- On a plain-RAM bus a pull answers memory's byte at the slot one up (R26). -/
theorem pull_ram {s : State} (h : s.script = []) : (pull s).1 = Memory.read s.mem (slot (s.sp + 1)) := by
  rw [slot, ← stackAddr_toNat]
  exact busRead_ram (s := { s with sp := s.sp + 1 }) (stackAddr (s.sp + 1)) h

/-- SP after two pulls, as the statements write it. -/
theorem sp_add_one_add_one (sp : Byte) : sp + 1 + 1 = sp + 2 := BitVec.add_assoc sp 1 1

/-! ### What a pulled word is -/

/-- A pulled word has the first byte pulled as its low byte and the second as its high byte (R161). -/
theorem pullWord_toNat (s : State) :
    (pullWord s).1.toNat = (pull s).1.toNat + 256 * (pull (pull s).2).1.toNat := Laws.word_toNat _ _

/-- The reads of a pulled word: the slot one up, then the slot two up (R161). -/
theorem pullWord_accesses (s : State) :
    (pullWord s).2.accesses = s.accesses ++ [.read (BitVec.ofNat 16 (slot (s.sp + 1))) (pull s).1,
      .read (BitVec.ofNat 16 (slot (s.sp + 2))) (pull (pull s).2).1] := by
  change (pull (pull s).2).2.accesses = _
  rw [pull_accesses, pull_accesses, pull_sp, sp_add_one_add_one, stackAddr_eq_slot, stackAddr_eq_slot,
    List.append_assoc, List.singleton_append]

/-- On a plain-RAM bus a pulled word is memory's word at the two slots above SP. -/
theorem pullWord_ram {s : State} (h : s.script = []) :
    (pullWord s).1.toNat = ramWord s.mem (slot (s.sp + 1)) (slot (s.sp + 2)) := by
  have hscript : (pull s).2.script = [] := by rw [pull_script, h, List.tail_nil]
  rw [pullWord_toNat, pull_ram h, pull_ram hscript, pull_mem, pull_sp, sp_add_one_add_one, ramWord]

/-! ### RTS -/

/-- The RTS arm: the pull of a word, and PC one past that word (R161). -/
theorem exec_rts (s : State) :
    exec .rts s = .next { (pullWord s).2 with pc := (pullWord s).1 + 1, returned := .cycles (baseCycles 0x60) } := rfl

/-- Settles O20: RTS is one pulled word, whose two bytes and two reads `pullWord` names; PC is that word's successor. -/
theorem rtsReturnsPastTheCall : Obligations.RtsReturnsPastTheCall := by
  intro s
  have hpc : ((pullWord s).1 + 1).toNat = ((pullWord s).1.toNat + 1) % 65536 := BitVec.toNat_add _ 1
  refine ⟨rfl, rfl, _, exec_rts s, rfl, ⟨rfl, rfl, rfl⟩, ⟨_, _, pullWord_accesses s, ?bytes⟩, fun h => ?ram,
    sp_add_one_add_one s.sp, rfl, rfl, rfl, rfl, fun _ => rfl⟩
  case bytes => rw [hpc, pullWord_toNat]
  case ram => rw [hpc, pullWord_ram h]

end Sys2Proof.Proofs
end

section
/-! Proofs of the family of 45_stack_status_system.md: what PHA and PHP push (R170, R171), what PLA and PLP pull (R172,
R173), and NOP (R183). Before each pair of stack instructions, its push or pull as a whole. -/

namespace Sys2Proof.Proofs

open Sys2Proof Sys2Proof.Machine Sys2Proof.Spec

/-! ### PHA and PHP -/

/-- A push is one bus write at the slot SP designates (R26). -/
theorem writesByte_push (v : Byte) (s : State) : WritesByte (BitVec.ofNat 16 (slot s.sp)) v s s (push v s) := by
  rw [← stackAddr_eq_slot]
  exact writesByte_busWrite (stackAddr s.sp) v id rfl rfl

/-- An instruction whose effect is the push of one byte moves SP down by one and changes no other register and no flag. -/
theorem runs_of_push {row : FormRow} {v : Byte} {s : State} (hrow : RowAgrees row)
    (hexec : exec row.instr s = .next (retire row.opcode false (push v s))) :
    Runs row false s fun t => t.sp = s.sp - 1 ∧ t.p = s.p ∧ t.a = s.a ∧ t.x = s.x ∧ t.y = s.y ∧
      WritesByte (BitVec.ofNat 16 (slot s.sp)) v s s t :=
  runs_of_retire hrow hexec (push_pc v s) ⟨push_halted v s, push_pcValid v s, push_calls v s⟩
    ⟨push_sp v s, push_p v s, push_a v s, push_x v s, push_y v s, writesByte_push v s⟩

/-- Settles O22: PHA is the push of A, PHP that of P as a break pushes it. -/
theorem pushesWriteOneStackByte : Obligations.PushesWriteOneStackByte := fun s =>
  ⟨runs_of_push (v := s.a) (.of rfl rfl rfl rfl rfl) rfl,
    runs_of_push (v := statusPushedByBreak s.p) (.of rfl rfl rfl rfl rfl) rfl⟩

/-! ### PLA and PLP -/

/-- A pull is one bus read, at the slot one up (R26). -/
theorem pull_accesses_slot (s : State) :
    (pull s).2.accesses = s.accesses ++ [.read (BitVec.ofNat 16 (slot (s.sp + 1))) (pull s).1] := by
  rw [pull_accesses, stackAddr_eq_slot]

/-- An instruction that pulls one byte and then puts `a` and `p` into A and P moves SP up by one, and meets every `post`
that these two registers bring about. -/
theorem runs_of_pull {row : FormRow} {a p : Byte} {s : State} {post : Byte → State → Prop} (hrow : RowAgrees row)
    (hexec : exec row.instr s = .next (retire row.opcode false { (pull s).2 with a := a, p := p }))
    (hpost : ∀ t : State, t.a = a → t.p = p → post (pull s).1 t) :
    Runs row false s fun t => ∃ v, t.accesses = s.accesses ++ [.read (BitVec.ofNat 16 (slot (s.sp + 1))) v] ∧
      (s.script = [] → v = Memory.read s.mem (slot (s.sp + 1))) ∧
      t.sp = s.sp + 1 ∧ t.x = s.x ∧ t.y = s.y ∧ SameMemory s t ∧ post v t :=
  runs_of_retire hrow hexec (pull_pc s) ⟨pull_halted s, pull_pcValid s, pull_calls s⟩
    ⟨(pull s).1, pull_accesses_slot s, pull_ram, pull_sp s, pull_x s, pull_y s, fun _ => rfl, hpost _ rfl rfl⟩

/-- Settles O23: PLA puts the pulled byte into A and its Z and N into P; PLP puts into P the byte that R173 makes of it
and leaves A. -/
theorem pullsReadOneStackByte : Obligations.PullsReadOneStackByte := by
  intro s
  refine ⟨?pla, ?plp⟩
  case pla =>
    exact runs_of_pull (a := (pull s).1) (p := setZN (pull s).1 s.p) (.of rfl rfl rfl rfl rfl) rfl
      fun _ ha hp => ⟨ha, zeroNegativeOf_setZN hp, sameFlagsBut_setZN hp⟩
  case plp =>
    exact runs_of_pull (a := s.a) (p := statusPulledByPlp (pull s).1 s.p) (.of rfl rfl rfl rfl rfl) rfl
      fun _ ha hp => ⟨ha, hp⟩

/-! ### NOP -/

/-- Settles O25: NOP is the implied instruction whose effect is none. -/
theorem nopOnlyAdvancesPc : Obligations.NopOnlyAdvancesPc :=
  impliedThen_of_effect (effect := noEffect) (.of rfl rfl rfl rfl rfl) (fun _ => rfl)
    (fun _ => ⟨rfl, ⟨rfl, rfl, rfl⟩, fun _ => rfl, rfl, rfl⟩) fun _ => ⟨rfl, rfl, rfl, rfl, rfl⟩

end Sys2Proof.Proofs
end

section
/-! Proofs of 30_encoding.md: decoding what was encoded (R60, R63, R64) and encoding what was decoded (R65, R66). -/

namespace Sys2Proof.Proofs

open Sys2Proof Sys2Proof.Laws

/-! ### From the instruction to its bytes and back -/

/-- Every instruction's bytes decode to it: the law of its constructor. -/
theorem roundTrip (i : Instr) : RoundTrip.Statement i :=
  match i with
  | .brk => RoundTrip.brk | .oraIndX z => RoundTrip.oraIndX z | .jam02 => RoundTrip.jam02
  | .sloIndX z => RoundTrip.sloIndX z | .nopZp04 z => RoundTrip.nopZp04 z | .oraZp z => RoundTrip.oraZp z
  | .aslZp z => RoundTrip.aslZp z | .sloZp z => RoundTrip.sloZp z | .php => RoundTrip.php
  | .oraImm v => RoundTrip.oraImm v | .aslA => RoundTrip.aslA | .anc0B => RoundTrip.anc0B
  | .nopAbs0C w => RoundTrip.nopAbs0C w | .oraAbs w => RoundTrip.oraAbs w | .aslAbs w => RoundTrip.aslAbs w
  | .sloAbs w => RoundTrip.sloAbs w | .bpl off => RoundTrip.bpl off | .oraIndY z => RoundTrip.oraIndY z
  | .jam12 => RoundTrip.jam12 | .sloIndY z => RoundTrip.sloIndY z | .nopZpX14 z => RoundTrip.nopZpX14 z
  | .oraZpX z => RoundTrip.oraZpX z | .aslZpX z => RoundTrip.aslZpX z | .sloZpX z => RoundTrip.sloZpX z
  | .clc => RoundTrip.clc | .oraAbsY w => RoundTrip.oraAbsY w | .nopImp1A => RoundTrip.nopImp1A
  | .sloAbsY w => RoundTrip.sloAbsY w | .nopAbsX1C w => RoundTrip.nopAbsX1C w | .oraAbsX w => RoundTrip.oraAbsX w
  | .aslAbsX w => RoundTrip.aslAbsX w | .sloAbsX w => RoundTrip.sloAbsX w | .jsr w => RoundTrip.jsr w
  | .andIndX z => RoundTrip.andIndX z | .jam22 => RoundTrip.jam22 | .rlaIndX z => RoundTrip.rlaIndX z
  | .bitZp z => RoundTrip.bitZp z | .andZp z => RoundTrip.andZp z | .rolZp z => RoundTrip.rolZp z
  | .rlaZp z => RoundTrip.rlaZp z | .plp => RoundTrip.plp | .andImm v => RoundTrip.andImm v
  | .rolA => RoundTrip.rolA | .anc2B => RoundTrip.anc2B | .bitAbs w => RoundTrip.bitAbs w
  | .andAbs w => RoundTrip.andAbs w | .rolAbs w => RoundTrip.rolAbs w | .rlaAbs w => RoundTrip.rlaAbs w
  | .bmi off => RoundTrip.bmi off | .andIndY z => RoundTrip.andIndY z | .jam32 => RoundTrip.jam32
  | .rlaIndY z => RoundTrip.rlaIndY z | .nopZpX34 z => RoundTrip.nopZpX34 z | .andZpX z => RoundTrip.andZpX z
  | .rolZpX z => RoundTrip.rolZpX z | .rlaZpX z => RoundTrip.rlaZpX z | .sec => RoundTrip.sec
  | .andAbsY w => RoundTrip.andAbsY w | .nopImp3A => RoundTrip.nopImp3A | .rlaAbsY w => RoundTrip.rlaAbsY w
  | .nopAbsX3C w => RoundTrip.nopAbsX3C w | .andAbsX w => RoundTrip.andAbsX w | .rolAbsX w => RoundTrip.rolAbsX w
  | .rlaAbsX w => RoundTrip.rlaAbsX w | .rti => RoundTrip.rti | .eorIndX z => RoundTrip.eorIndX z
  | .jam42 => RoundTrip.jam42 | .sreIndX z => RoundTrip.sreIndX z | .nopZp44 z => RoundTrip.nopZp44 z
  | .eorZp z => RoundTrip.eorZp z | .lsrZp z => RoundTrip.lsrZp z | .sreZp z => RoundTrip.sreZp z
  | .pha => RoundTrip.pha | .eorImm v => RoundTrip.eorImm v | .lsrA => RoundTrip.lsrA | .alr => RoundTrip.alr
  | .jmpAbs w => RoundTrip.jmpAbs w | .eorAbs w => RoundTrip.eorAbs w | .lsrAbs w => RoundTrip.lsrAbs w
  | .sreAbs w => RoundTrip.sreAbs w | .bvc off => RoundTrip.bvc off | .eorIndY z => RoundTrip.eorIndY z
  | .jam52 => RoundTrip.jam52 | .sreIndY z => RoundTrip.sreIndY z | .nopZpX54 z => RoundTrip.nopZpX54 z
  | .eorZpX z => RoundTrip.eorZpX z | .lsrZpX z => RoundTrip.lsrZpX z | .sreZpX z => RoundTrip.sreZpX z
  | .cli => RoundTrip.cli | .eorAbsY w => RoundTrip.eorAbsY w | .nopImp5A => RoundTrip.nopImp5A
  | .sreAbsY w => RoundTrip.sreAbsY w | .nopAbsX5C w => RoundTrip.nopAbsX5C w | .eorAbsX w => RoundTrip.eorAbsX w
  | .lsrAbsX w => RoundTrip.lsrAbsX w | .sreAbsX w => RoundTrip.sreAbsX w | .rts => RoundTrip.rts
  | .adcIndX z => RoundTrip.adcIndX z | .jam62 => RoundTrip.jam62 | .rraIndX z => RoundTrip.rraIndX z
  | .nopZp64 z => RoundTrip.nopZp64 z | .adcZp z => RoundTrip.adcZp z | .rorZp z => RoundTrip.rorZp z
  | .rraZp z => RoundTrip.rraZp z | .pla => RoundTrip.pla | .adcImm v => RoundTrip.adcImm v
  | .rorA => RoundTrip.rorA | .arr => RoundTrip.arr | .jmpInd w => RoundTrip.jmpInd w
  | .adcAbs w => RoundTrip.adcAbs w | .rorAbs w => RoundTrip.rorAbs w | .rraAbs w => RoundTrip.rraAbs w
  | .bvs off => RoundTrip.bvs off | .adcIndY z => RoundTrip.adcIndY z | .jam72 => RoundTrip.jam72
  | .rraIndY z => RoundTrip.rraIndY z | .nopZpX74 z => RoundTrip.nopZpX74 z | .adcZpX z => RoundTrip.adcZpX z
  | .rorZpX z => RoundTrip.rorZpX z | .rraZpX z => RoundTrip.rraZpX z | .sei => RoundTrip.sei
  | .adcAbsY w => RoundTrip.adcAbsY w | .nopImp7A => RoundTrip.nopImp7A | .rraAbsY w => RoundTrip.rraAbsY w
  | .nopAbsX7C w => RoundTrip.nopAbsX7C w | .adcAbsX w => RoundTrip.adcAbsX w | .rorAbsX w => RoundTrip.rorAbsX w
  | .rraAbsX w => RoundTrip.rraAbsX w | .nopImm80 v => RoundTrip.nopImm80 v | .staIndX z => RoundTrip.staIndX z
  | .nopImm82 v => RoundTrip.nopImm82 v | .saxIndX z => RoundTrip.saxIndX z | .styZp z => RoundTrip.styZp z
  | .staZp z => RoundTrip.staZp z | .stxZp z => RoundTrip.stxZp z | .saxZp z => RoundTrip.saxZp z
  | .dey => RoundTrip.dey | .nopImm89 v => RoundTrip.nopImm89 v | .txa => RoundTrip.txa | .xaa => RoundTrip.xaa
  | .styAbs w => RoundTrip.styAbs w | .staAbs w => RoundTrip.staAbs w | .stxAbs w => RoundTrip.stxAbs w
  | .saxAbs w => RoundTrip.saxAbs w | .bcc off => RoundTrip.bcc off | .staIndY z => RoundTrip.staIndY z
  | .jam92 => RoundTrip.jam92 | .sha93 => RoundTrip.sha93 | .styZpX z => RoundTrip.styZpX z
  | .staZpX z => RoundTrip.staZpX z | .stxZpY z => RoundTrip.stxZpY z | .saxZpY z => RoundTrip.saxZpY z
  | .tya => RoundTrip.tya | .staAbsY w => RoundTrip.staAbsY w | .txs => RoundTrip.txs | .tas => RoundTrip.tas
  | .shy => RoundTrip.shy | .staAbsX w => RoundTrip.staAbsX w | .shx => RoundTrip.shx | .sha9F => RoundTrip.sha9F
  | .ldyImm v => RoundTrip.ldyImm v | .ldaIndX z => RoundTrip.ldaIndX z | .ldxImm v => RoundTrip.ldxImm v
  | .laxIndX z => RoundTrip.laxIndX z | .ldyZp z => RoundTrip.ldyZp z | .ldaZp z => RoundTrip.ldaZp z
  | .ldxZp z => RoundTrip.ldxZp z | .laxZp z => RoundTrip.laxZp z | .tay => RoundTrip.tay
  | .ldaImm v => RoundTrip.ldaImm v | .tax => RoundTrip.tax | .lxa => RoundTrip.lxa
  | .ldyAbs w => RoundTrip.ldyAbs w | .ldaAbs w => RoundTrip.ldaAbs w | .ldxAbs w => RoundTrip.ldxAbs w
  | .laxAbs w => RoundTrip.laxAbs w | .bcs off => RoundTrip.bcs off | .ldaIndY z => RoundTrip.ldaIndY z
  | .jamB2 => RoundTrip.jamB2 | .laxIndY z => RoundTrip.laxIndY z | .ldyZpX z => RoundTrip.ldyZpX z
  | .ldaZpX z => RoundTrip.ldaZpX z | .ldxZpY z => RoundTrip.ldxZpY z | .laxZpY z => RoundTrip.laxZpY z
  | .clv => RoundTrip.clv | .ldaAbsY w => RoundTrip.ldaAbsY w | .tsx => RoundTrip.tsx | .las => RoundTrip.las
  | .ldyAbsX w => RoundTrip.ldyAbsX w | .ldaAbsX w => RoundTrip.ldaAbsX w | .ldxAbsY w => RoundTrip.ldxAbsY w
  | .laxAbsY w => RoundTrip.laxAbsY w | .cpyImm v => RoundTrip.cpyImm v | .cmpIndX z => RoundTrip.cmpIndX z
  | .nopImmC2 v => RoundTrip.nopImmC2 v | .dcpIndX z => RoundTrip.dcpIndX z | .cpyZp z => RoundTrip.cpyZp z
  | .cmpZp z => RoundTrip.cmpZp z | .decZp z => RoundTrip.decZp z | .dcpZp z => RoundTrip.dcpZp z
  | .iny => RoundTrip.iny | .cmpImm v => RoundTrip.cmpImm v | .dex => RoundTrip.dex | .sbx => RoundTrip.sbx
  | .cpyAbs w => RoundTrip.cpyAbs w | .cmpAbs w => RoundTrip.cmpAbs w | .decAbs w => RoundTrip.decAbs w
  | .dcpAbs w => RoundTrip.dcpAbs w | .bne off => RoundTrip.bne off | .cmpIndY z => RoundTrip.cmpIndY z
  | .jamD2 => RoundTrip.jamD2 | .dcpIndY z => RoundTrip.dcpIndY z | .nopZpXD4 z => RoundTrip.nopZpXD4 z
  | .cmpZpX z => RoundTrip.cmpZpX z | .decZpX z => RoundTrip.decZpX z | .dcpZpX z => RoundTrip.dcpZpX z
  | .cld => RoundTrip.cld | .cmpAbsY w => RoundTrip.cmpAbsY w | .nopImpDA => RoundTrip.nopImpDA
  | .dcpAbsY w => RoundTrip.dcpAbsY w | .nopAbsXDC w => RoundTrip.nopAbsXDC w | .cmpAbsX w => RoundTrip.cmpAbsX w
  | .decAbsX w => RoundTrip.decAbsX w | .dcpAbsX w => RoundTrip.dcpAbsX w | .cpxImm v => RoundTrip.cpxImm v
  | .sbcIndX z => RoundTrip.sbcIndX z | .nopImmE2 v => RoundTrip.nopImmE2 v | .isbIndX z => RoundTrip.isbIndX z
  | .cpxZp z => RoundTrip.cpxZp z | .sbcZp z => RoundTrip.sbcZp z | .incZp z => RoundTrip.incZp z
  | .isbZp z => RoundTrip.isbZp z | .inx => RoundTrip.inx | .sbcImm v => RoundTrip.sbcImm v | .nop => RoundTrip.nop
  | .sbcImmEB v => RoundTrip.sbcImmEB v | .cpxAbs w => RoundTrip.cpxAbs w | .sbcAbs w => RoundTrip.sbcAbs w
  | .incAbs w => RoundTrip.incAbs w | .isbAbs w => RoundTrip.isbAbs w | .beq off => RoundTrip.beq off
  | .sbcIndY z => RoundTrip.sbcIndY z | .jamF2 => RoundTrip.jamF2 | .isbIndY z => RoundTrip.isbIndY z
  | .nopZpXF4 z => RoundTrip.nopZpXF4 z | .sbcZpX z => RoundTrip.sbcZpX z | .incZpX z => RoundTrip.incZpX z
  | .isbZpX z => RoundTrip.isbZpX z | .sed => RoundTrip.sed | .sbcAbsY w => RoundTrip.sbcAbsY w
  | .nopImpFA => RoundTrip.nopImpFA | .isbAbsY w => RoundTrip.isbAbsY w | .nopAbsXFC w => RoundTrip.nopAbsXFC w
  | .sbcAbsX w => RoundTrip.sbcAbsX w | .incAbsX w => RoundTrip.incAbsX w | .isbAbsX w => RoundTrip.isbAbsX w

/-- Settles O48: by the law of each constructor, which holds for every operand and all bytes that follow. -/
theorem decodeUndoesEncode : Obligations.DecodeUndoesEncode := fun i rest _ => roundTrip i rest

/-! ### From the bytes to the instruction and back -/

/-- The bytes that a form's instruction of two operand bytes is written as: BRK's padding is 0x00 (log 9). -/
def formBytes (op b1 b2 : Byte) : Form → List Byte
  | .alone _ => [op]
  | .padded _ => [op, 0x00]
  | .withByte _ => [op, b1]
  | .withWord _ => [op, lo (word b2 b1), hi (word b2 b1)]

/-- The encoder writes of a decoded instruction the opcode read and the operand bytes its form has: each of the 256
opcodes computes. -/
theorem encode_decodeBytes (op b1 b2 : Byte) :
    encode (decodeBytes op b1 b2) = formBytes op b1 b2 (descriptor op).form := by
  have hop : op = BitVec.ofNat 8 op.toNat := by rw [BitVec.ofNat_toNat, BitVec.setWidth_eq]
  have hlt := op.isLt
  generalize op.toNat = n at hop hlt
  subst hop
  interval_cases n <;> rfl

/-- A decoded instruction has the opcode it was decoded from (R65). -/
theorem opcode_decodeBytes (op b1 b2 : Byte) : (decodeBytes op b1 b2).opcode = op := by
  rw [Instr.opcode, encode_decodeBytes]
  cases (descriptor op).form <;> rfl

/-- Where the form has one operand byte, the two bytes read are written back. -/
theorem encode_decodeBytes_byte {op : Byte} (b1 b2 : Byte) (h : (descriptor op).form.operandBytes = 1) :
    encode (decodeBytes op b1 b2) = [op, b1] := by
  rw [encode_decodeBytes]
  cases hform : (descriptor op).form with
  | withByte => rfl
  | alone | padded | withWord => rw [hform] at h; cases h

/-- Where the form has two operand bytes, the three bytes read are written back, low byte first (R63). -/
theorem encode_decodeBytes_word {op : Byte} (b1 b2 : Byte) (h : (descriptor op).form.operandBytes = 2) :
    encode (decodeBytes op b1 b2) = [op, b1, b2] := by
  rw [encode_decodeBytes]
  cases hform : (descriptor op).form with
  | withWord => rw [formBytes, lo_word, hi_word]
  | alone | padded | withByte => rw [hform] at h; cases h

/-- Every row of the descriptor table meets the spec's requirements of a row. -/
theorem descriptor_wellFormed : ∀ op : Byte, (descriptor op).wellFormed = true := by decide

/-- How many of the 256 slots are of a class. -/
def slotCount (c : SlotClass) : Nat := ((List.range 256).filter fun n => (descriptor (BitVec.ofNat 8 n)).slot == c).length

set_option maxRecDepth 2000 in
/-- The three classes of slots, counted in the table (R65). -/
theorem slotCount_eq : slotCount .legal = 151 ∧ slotCount .supported = 80 ∧ slotCount .trap = 25 := by decide

/-- Settles O49: a decoded instruction is written as its form says, the rows are well formed and counted. -/
theorem everyByteIsOneOpcode : Obligations.EveryByteIsOneOpcode :=
  ⟨fun op b1 b2 => ⟨opcode_decodeBytes op b1 b2, encode_decodeBytes_byte b1 b2, encode_decodeBytes_word b1 b2,
    descriptor_wellFormed op⟩, slotCount_eq⟩

/-- Settles O50: each word computes. -/
theorem sampleWordsDecode : Obligations.SampleWordsDecode := by
  unfold Obligations.SampleWordsDecode
  decide

end Sys2Proof.Proofs
end

section
/-! Proofs of the rules that hold of every instruction: which registers, flags and bytes of memory it may change (10_state.md,
20_memory.md), which count it returns (40_addressing.md R98). One contract, of which these are the clauses, is proved once
along the meanings of `exec_meant`. -/

namespace Sys2Proof.Proofs

open Sys2Proof Sys2Proof.Machine Sys2Proof.Spec

/-! ### The bus: what the record and memory owe each other -/

/-- From `s` to `t` the access record grows, by `k` writes among the new entries; memory changes only where a recorded
write went, and stays canonical. -/
structure BusPath (k : Nat) (s t : State) : Prop where
  record : ∃ new, t.accesses = s.accesses ++ new ∧ new.countP isWrite = k
  memory : ∀ b, (∀ a v, BusAccess.write a v ∈ t.accesses → a.toNat ≠ b) → Memory.read t.mem b = Memory.read s.mem b
  wf : Memory.wf s.mem = true → Memory.wf t.mem = true

theorem BusPath.quiet {s t : State} (haccesses : t.accesses = s.accesses) (hmem : t.mem = s.mem) : BusPath 0 s t :=
  ⟨⟨[], by rw [haccesses, List.append_nil], rfl⟩, fun _ _ => by rw [hmem], fun h => by rwa [hmem]⟩

theorem BusPath.trans {j k : Nat} {s t u : State} (hst : BusPath j s t) (htu : BusPath k t u) : BusPath (j + k) s u := by
  obtain ⟨⟨new, haccesses, hcount⟩, hmemory, hwf⟩ := hst
  obtain ⟨⟨new', haccesses', hcount'⟩, hmemory', hwf'⟩ := htu
  refine ⟨⟨new ++ new', by rw [haccesses', haccesses, List.append_assoc], by rw [List.countP_append, hcount, hcount']⟩,
    fun b hb => ?memory, fun h => hwf' (hwf h)⟩
  case memory =>
    have hbt : ∀ a v, BusAccess.write a v ∈ t.accesses → a.toNat ≠ b := fun a v ha =>
      hb a v (haccesses' ▸ List.mem_append_left new' ha)
    exact (hmemory' b hb).trans (hmemory b hbt)

theorem busPath_busRead (ad : Addr) (s : State) : BusPath 0 s (busRead ad s).2 :=
  ⟨⟨_, busRead_accesses ad s, rfl⟩, fun _ _ => rfl, id⟩

theorem busPath_busWrite (ad : Addr) (v : Byte) (s : State) : BusPath 1 s (busWrite ad v s) := by
  refine ⟨⟨_, busWrite_accesses ad v s, rfl⟩, fun b hb => busWrite_read_other ad v s ?_, busWrite_wf ad v⟩
  have hmem : BusAccess.write ad v ∈ (busWrite ad v s).accesses := by
    rw [busWrite_accesses]
    exact List.mem_append_right _ (List.mem_singleton.mpr rfl)
  exact (hb ad v hmem).symm

/-! ### Registers and flags: their writers -/

/-- The writers of A (10_state.md R21), the Accumulator mode apart. -/
def aWriters : List String :=
  ["LDA", "PLA", "TXA", "TYA", "AND", "ORA", "EOR", "ADC", "SBC", "LAX", "SLO", "RLA", "SRE", "RRA", "ISB"]

/-- The writers of X (R22). -/
def xWriters : List String := ["LDX", "TAX", "TSX", "INX", "DEX", "LAX"]

/-- The writers of Y (R23). -/
def yWriters : List String := ["LDY", "TAY", "INY", "DEY"]

/-- The writers of SP (R25). -/
def spWriters : List String := ["TXS", "PHA", "PHP", "PLA", "PLP", "JSR", "RTS", "BRK", "RTI"]

/-- The bits of P that have a list of writers, C, V, I, D and B, each with its list (R29 to R33). -/
def bitWriters : List (Nat × List String) :=
  [(0, ["ADC", "SBC", "CMP", "CPX", "CPY", "ASL", "LSR", "ROL", "ROR", "CLC", "SEC", "PLP", "RTI", "SLO", "RLA",
      "SRE", "RRA", "DCP", "ISB"]),
   (6, ["ADC", "SBC", "BIT", "CLV", "PLP", "RTI", "RRA", "ISB"]),
   (2, ["SEI", "CLI", "PLP", "RTI", "BRK"]),
   (3, ["SED", "CLD", "PLP", "RTI"]),
   (4, ["RTI"])]

/-- The registers change only if the mnemonic `m` is among their writers; `inA` says that the mode is Accumulator. -/
structure RegistersOf (m : String) (inA : Bool) (s t : State) : Prop where
  a : m ∉ aWriters → inA = false → t.a = s.a
  x : m ∉ xWriters → t.x = s.x
  y : m ∉ yWriters → t.y = s.y
  sp : m ∉ spWriters → t.sp = s.sp

theorem RegistersOf.same {m : String} {inA : Bool} {s t : State} (h : SameRegisters s t) : RegistersOf m inA s t := by
  obtain ⟨ha, hx, hy, hsp⟩ := h
  exact ⟨fun _ _ => ha, fun _ => hx, fun _ => hy, fun _ => hsp⟩

theorem RegistersOf.trans {m : String} {inA : Bool} {s t u : State} (hst : RegistersOf m inA s t)
    (htu : RegistersOf m inA t u) : RegistersOf m inA s u :=
  ⟨fun hm hA => (htu.a hm hA).trans (hst.a hm hA), fun hm => (htu.x hm).trans (hst.x hm),
    fun hm => (htu.y hm).trans (hst.y hm), fun hm => (htu.sp hm).trans (hst.sp hm)⟩

/-- The mnemonic may write bit `i` of P. -/
abbrev MayWriteBit (m : String) (i : Nat) : Prop := ∀ w ∈ bitWriters, w.1 = i → m ∈ w.2

/-- From `p` to `q` a bit changes only if the mnemonic `m` is among its writers, and bit 5 stays 1. -/
structure FlagsOf (m : String) (p q : Byte) : Prop where
  kept : ∀ w ∈ bitWriters, m ∉ w.2 → q.getLsbD w.1 = p.getLsbD w.1
  unused : flagU p = true → flagU q = true

theorem FlagsOf.same {m : String} {p q : Byte} (h : q = p) : FlagsOf m p q := ⟨fun _ _ _ => by rw [h], fun hu => by rwa [h]⟩

theorem FlagsOf.trans {m : String} {p q r : Byte} (hpq : FlagsOf m p q) (hqr : FlagsOf m q r) : FlagsOf m p r :=
  ⟨fun w hw hm => (hqr.kept w hw hm).trans (hpq.kept w hw hm), fun hu => hqr.unused (hpq.unused hu)⟩

/-- Setting a bit is within what a writer of the bit may do. -/
theorem FlagsOf.setBit {m : String} {i : Nat} (b : Bool) (p : Byte) (hi : i < 8 ∧ i ≠ 5) (hm : MayWriteBit m i) :
    FlagsOf m p (setBit p i b) := by
  obtain ⟨hlt, hne⟩ := hi
  refine ⟨fun w hw hmw => ?kept, fun hu => ?unused⟩
  case kept => rw [setBit_getLsbD p i b w.1 hlt, if_neg fun hwi => hmw (hm w hw hwi)]
  case unused => rw [flagU, setBit_getLsbD p i b 5 hlt, if_neg hne.symm, ← flagU, hu]

theorem FlagsOf.setC {m : String} (b : Bool) (p : Byte) (hm : MayWriteBit m 0) : FlagsOf m p (setC b p) :=
  .setBit b p (by decide) hm

theorem FlagsOf.setI {m : String} (b : Bool) (p : Byte) (hm : MayWriteBit m 2) : FlagsOf m p (setI b p) :=
  .setBit b p (by decide) hm

theorem FlagsOf.setD {m : String} (b : Bool) (p : Byte) (hm : MayWriteBit m 3) : FlagsOf m p (setD b p) :=
  .setBit b p (by decide) hm

theorem FlagsOf.setV {m : String} (b : Bool) (p : Byte) (hm : MayWriteBit m 6) : FlagsOf m p (setV b p) :=
  .setBit b p (by decide) hm

/-- Z has no list of writers. -/
theorem FlagsOf.setZ {m : String} (b : Bool) (p : Byte) : FlagsOf m p (setZ b p) :=
  .setBit b p (by decide) fun w hw hwi => by revert w; simp [bitWriters]

/-- N has no list of writers. -/
theorem FlagsOf.setN {m : String} (b : Bool) (p : Byte) : FlagsOf m p (setN b p) :=
  .setBit b p (by decide) fun w hw hwi => by revert w; simp [bitWriters]

theorem FlagsOf.setZN {m : String} (v p : Byte) : FlagsOf m p (setZN v p) := (setZ _ p).trans (setN _ _)

theorem FlagsOf.setAdder {m : String} (sum : Sum) (p : Byte) (hc : MayWriteBit m 0) (hv : MayWriteBit m 6) :
    FlagsOf m p (setAdder sum p) := ((setC _ p hc).trans (setV _ _ hv)).trans (setZN _ _)

theorem FlagsOf.setCompare {m : String} (reg v p : Byte) (hc : MayWriteBit m 0) : FlagsOf m p (setCompare reg v p) :=
  ((setC _ p hc).trans (setZ _ _)).trans (setN _ _)

theorem FlagsOf.setBitTest {m : String} (a v p : Byte) (hv : MayWriteBit m 6) : FlagsOf m p (setBitTest a v p) :=
  ((setZ _ p).trans (setN _ _)).trans (setV _ _ hv)

theorem FlagsOf.shift {m : String} (r : Byte) (b : Bool) (p : Byte) (hc : MayWriteBit m 0) :
    FlagsOf m p (Machine.setZN r (Machine.setC b p)) := (setC b p hc).trans (setZN r _)

/-- PLP keeps B and forces U (R33, R34). -/
theorem FlagsOf.statusPulledByPlp (v p : Byte) : FlagsOf "PLP" p (statusPulledByPlp v p) := by
  refine ⟨fun w hw hm => ?kept, fun _ => flagU_statusPulledByPlp v p⟩
  have hb : w.1 = 4 := by revert w; decide
  rw [hb, statusPulledByPlp_getLsbD]
  rfl

/-- RTI writes every listed bit and forces U (R33, R34). -/
theorem FlagsOf.statusPulledByRti (v p : Byte) : FlagsOf "RTI" p (statusPulledByRti v) := by
  refine ⟨fun w hw hm => ?kept, fun _ => flagU_statusPulledByRti v⟩
  exact absurd (show "RTI" ∈ w.2 by revert w; decide) hm

/-! ### The parts of an instruction -/

/-- A part of an instruction `m` leads from `s` to `t`: it makes `k` bus writes, and changes no more than `m` may. -/
structure Within (m : String) (inA : Bool) (k : Nat) (s t : State) : Prop where
  control : SameControl s t
  path : BusPath k s t
  registers : RegistersOf m inA s t
  flags : FlagsOf m s.p t.p

section
variable {m : String} {inA : Bool} {s : State}

theorem Within.trans {j k : Nat} {t u : State} (hst : Within m inA j s t) (htu : Within m inA k t u) :
    Within m inA (j + k) s u :=
  ⟨sameControl_trans hst.control htu.control, hst.path.trans htu.path, hst.registers.trans htu.registers,
    hst.flags.trans htu.flags⟩

/-- A part followed by one without a write makes as many writes. -/
theorem Within.followed {k : Nat} {t u : State} (hst : Within m inA k s t) (htu : Within m inA 0 t u) : Within m inA k s u :=
  hst.trans htu

/-- A part after one without a write makes as many writes as alone. -/
theorem Within.after {k : Nat} {t u : State} (htu : Within m inA k t u) (hst : Within m inA 0 s t) : Within m inA k s u := by
  simpa only [Nat.zero_add] using hst.trans htu

/-- A new PC and a new returned value are no matter of `Within`. -/
theorem Within.transfer (pc : Addr) (returned : CallResult) :
    Within m inA 0 s { s with pc := pc, returned := returned } :=
  ⟨⟨rfl, rfl, rfl⟩, .quiet rfl rfl, .same ⟨rfl, rfl, rfl, rfl⟩, .same rfl⟩

theorem Within.refl : Within m inA 0 s s := .transfer s.pc s.returned

theorem Within.retire (op : Byte) (crossed : Bool) : Within m inA 0 s (retire op crossed s) := .transfer _ _

/-- A new P is within the part if it is within its flags. -/
theorem Within.status {q : Byte} (h : FlagsOf m s.p q) : Within m inA 0 s { s with p := q } :=
  ⟨⟨rfl, rfl, rfl⟩, .quiet rfl rfl, .same ⟨rfl, rfl, rfl, rfl⟩, h⟩

theorem Within.setA (v : Byte) (h : m ∈ aWriters ∨ inA = true) : Within m inA 0 s { s with a := v } :=
  ⟨⟨rfl, rfl, rfl⟩, .quiet rfl rfl,
    ⟨fun hm hA => h.elim (fun hm' => absurd hm' hm) fun hA' => absurd (hA'.symm.trans hA) (by decide),
      fun _ => rfl, fun _ => rfl, fun _ => rfl⟩, .same rfl⟩

theorem Within.setX (v : Byte) (h : m ∈ xWriters) : Within m inA 0 s { s with x := v } :=
  ⟨⟨rfl, rfl, rfl⟩, .quiet rfl rfl, ⟨fun _ _ => rfl, fun hm => absurd h hm, fun _ => rfl, fun _ => rfl⟩, .same rfl⟩

theorem Within.setY (v : Byte) (h : m ∈ yWriters) : Within m inA 0 s { s with y := v } :=
  ⟨⟨rfl, rfl, rfl⟩, .quiet rfl rfl, ⟨fun _ _ => rfl, fun _ => rfl, fun hm => absurd h hm, fun _ => rfl⟩, .same rfl⟩

theorem Within.setSp (v : Byte) (h : m ∈ spWriters) : Within m inA 0 s { s with sp := v } :=
  ⟨⟨rfl, rfl, rfl⟩, .quiet rfl rfl, ⟨fun _ _ => rfl, fun _ => rfl, fun _ => rfl, fun hm => absurd h hm⟩, .same rfl⟩

theorem Within.busRead (ad : Addr) : Within m inA 0 s (busRead ad s).2 :=
  ⟨⟨rfl, rfl, rfl⟩, busPath_busRead ad s, .same ⟨rfl, rfl, rfl, rfl⟩, .same rfl⟩

theorem Within.busWrite (ad : Addr) (v : Byte) : Within m inA 1 s (busWrite ad v s) :=
  ⟨⟨rfl, rfl, rfl⟩, busPath_busWrite ad v s, .same ⟨rfl, rfl, rfl, rfl⟩, .same rfl⟩

theorem Within.push (v : Byte) (h : m ∈ spWriters) : Within m inA 1 s (push v s) :=
  (busWrite (stackAddr s.sp) v).followed (setSp (s.sp - 1) h)

theorem Within.pull (h : m ∈ spWriters) : Within m inA 0 s (pull s).2 :=
  (setSp (s.sp + 1) h).followed (busRead (stackAddr (s.sp + 1)))

theorem Within.pushWord (w : Addr) (h : m ∈ spWriters) : Within m inA 2 s (pushWord w s) :=
  (push (hi w) h).trans (push (lo w) h)

theorem Within.pullWord (h : m ∈ spWriters) : Within m inA 0 s (pullWord s).2 := (pull h).followed (pull h)

theorem Within.busReadWord (ad : Addr) : Within m inA 0 s (busReadWord ad s).2 := (busRead ad).followed (busRead (ad + 1))

theorem Within.zeroPageWord (z : Byte) : Within m inA 0 s (zeroPageWord z s).2 :=
  (busRead (zext z)).followed (busRead (zext (z + 1)))

/-- The resolver makes the reads of a zero-page pointer, or none. -/
theorem Within.resolve (r : MemOperand) : Within m inA 0 s (resolve r s).state :=
  match r with
  | .zeroPage _ | .zeroPageX _ | .zeroPageY _ | .absolute _ | .absoluteX _ | .absoluteY _ => refl
  | .indirectX z => zeroPageWord (z + s.x)
  | .indirectY z => zeroPageWord z

theorem Within.resolveIndirect (w : Addr) : Within m inA 0 s (resolveIndirect w s).2 := (busRead w).followed (busRead _)

theorem Within.operand (r : MemOperand) : Within m inA 0 s (operand r s).2 := (resolve r).followed (busRead _)

/-! ### The effects of the tables -/

theorem Within.loadA (v : Byte) (h : m ∈ aWriters) : Within m inA 0 s (loadA v s) :=
  (setA v (.inl h)).followed (status (.setZN v s.p))

theorem Within.loadX (v : Byte) (h : m ∈ xWriters) : Within m inA 0 s (loadX v s) :=
  (setX v h).followed (status (.setZN v s.p))

theorem Within.loadY (v : Byte) (h : m ∈ yWriters) : Within m inA 0 s (loadY v s) :=
  (setY v h).followed (status (.setZN v s.p))

theorem Within.adcA (v : Byte) (h : m ∈ aWriters) (hc : MayWriteBit m 0) (hv : MayWriteBit m 6) :
    Within m inA 0 s (adcA v s) :=
  (setA (addWithCarry s.a v (flagC s.p)).result (.inl h)).followed (status (.setAdder _ s.p hc hv))

theorem Within.loadAX (v : Byte) (ha : m ∈ aWriters) (hx : m ∈ xWriters) : Within m inA 0 s (loadAX v s) :=
  (loadA v ha).followed (setX v hx)

theorem Within.pullA (ha : m ∈ aWriters) (hsp : m ∈ spWriters) : Within m inA 0 s (pullA s) :=
  (pull hsp).followed (loadA (Machine.pull s).1 ha)

end

/-- How many writes the mnemonic `m` makes: the statements' `writesOf`, as a function of the mnemonic and of whether the
mode is Accumulator. -/
def classWrites (m : String) (inA : Bool) : Nat :=
  if m = "BRK" then 3
  else if m = "JSR" then 2
  else if m ∈ ["STA", "STX", "STY", "SAX", "INC", "DEC", "SLO", "RLA", "SRE", "RRA", "DCP", "ISB", "PHA", "PHP"] then 1
  else if m ∈ ["ASL", "LSR", "ROL", "ROR"] ∧ inA = false then 1
  else 0

theorem writesOf_eq (i : Instr) :
    writesOf i = classWrites (mnemonic i) (decide ((descriptor i.opcode).mode = some .accumulator)) := by
  simp only [writesOf, classWrites, decide_eq_false_iff_not, ne_eq]

/-- Every effect of an implied instruction is within its mnemonic. -/
theorem within_implied : ∀ e ∈ impliedEffects, ∀ inA s, Within e.1 inA (classWrites e.1 inA) s (e.2 s) := by
  simp only [impliedEffects, List.forall_mem_cons]
  exact ⟨
    fun _ s => .loadX s.a (by decide), fun _ s => .loadY s.a (by decide), fun _ s => .loadA s.x (by decide),
    fun _ s => .loadA s.y (by decide), fun _ s => .loadX s.sp (by decide), fun _ s => .setSp s.x (by decide),
    fun _ s => .loadX (s.x + 1) (by decide), fun _ s => .loadY (s.y + 1) (by decide),
    fun _ s => .loadX (s.x - 1) (by decide), fun _ s => .loadY (s.y - 1) (by decide),
    fun _ s => .status (.setC false s.p (by decide)), fun _ s => .status (.setC true s.p (by decide)),
    fun _ s => .status (.setI false s.p (by decide)), fun _ s => .status (.setI true s.p (by decide)),
    fun _ s => .status (.setD false s.p (by decide)), fun _ s => .status (.setD true s.p (by decide)),
    fun _ s => .status (.setV false s.p (by decide)), fun _ s => .push s.a (by decide),
    fun _ s => .push (statusPushedByBreak s.p) (by decide), fun _ _ => .pullA (by decide) (by decide),
    fun _ s => (Within.pull (by decide)).followed (.status (.statusPulledByPlp (pull s).1 s.p)), fun _ _ => .refl,
    List.forall_mem_nil _⟩

/-- Every effect of an instruction that reads a byte is within its mnemonic. -/
theorem within_read : ∀ e ∈ readEffects, ∀ inA v s, Within e.1 inA (classWrites e.1 inA) s (e.2 v s) := by
  simp only [readEffects, List.forall_mem_cons]
  exact ⟨
    fun _ v _ => .loadA v (by decide), fun _ v _ => .loadX v (by decide), fun _ v _ => .loadY v (by decide),
    fun _ v _ => .adcA v (by decide) (by decide) (by decide),
    fun _ v _ => .adcA (~~~v) (by decide) (by decide) (by decide), fun _ v s => .loadA (s.a &&& v) (by decide),
    fun _ v s => .loadA (s.a ||| v) (by decide), fun _ v s => .loadA (s.a ^^^ v) (by decide),
    fun _ v s => .status (.setCompare s.a v s.p (by decide)), fun _ v s => .status (.setCompare s.x v s.p (by decide)),
    fun _ v s => .status (.setCompare s.y v s.p (by decide)), fun _ v s => .status (.setBitTest s.a v s.p (by decide)),
    fun _ v _ => .loadAX v (by decide) (by decide), fun _ _ _ => .refl, List.forall_mem_nil _⟩

/-- Every step of a read-modify-write instruction is within its mnemonic. -/
theorem within_modify : ∀ e ∈ modifySteps, ∀ inA v s, Within e.1 inA 0 s (e.2 v s).2 := by
  simp only [modifySteps, List.forall_mem_cons]
  exact ⟨fun _ _ s => .status (.shift _ _ s.p (by decide)), fun _ _ s => .status (.shift _ _ s.p (by decide)),
    fun _ _ s => .status (.shift _ _ s.p (by decide)), fun _ _ s => .status (.shift _ _ s.p (by decide)),
    fun _ _ s => .status (.setZN _ s.p), fun _ _ s => .status (.setZN _ s.p), List.forall_mem_nil _⟩

/-- Both halves of a composite are within its mnemonic. -/
theorem within_composite :
    ∀ e ∈ compositeEffects, ∀ inA v s, Within e.1 inA 0 s (e.2.1 v s).2 ∧ Within e.1 inA 0 s (e.2.2 v s) := by
  simp only [compositeEffects, List.forall_mem_cons]
  exact ⟨
    fun _ v s => ⟨.status (.shift _ _ s.p (by decide)), .loadA (s.a ||| v) (by decide)⟩,
    fun _ v s => ⟨.status (.shift _ _ s.p (by decide)), .loadA (s.a &&& v) (by decide)⟩,
    fun _ v s => ⟨.status (.shift _ _ s.p (by decide)), .loadA (s.a ^^^ v) (by decide)⟩,
    fun _ v s => ⟨.status (.shift _ _ s.p (by decide)), .adcA v (by decide) (by decide) (by decide)⟩,
    fun _ v s => ⟨.status (.setZN _ s.p), .status (.setCompare s.a v s.p (by decide))⟩,
    fun _ v s => ⟨.status (.setZN _ s.p), .adcA (~~~v) (by decide) (by decide) (by decide)⟩, List.forall_mem_nil _⟩

/-! ### The count -/

/-- A completed instruction of the opcode returned its base count and at most two more, 2 to 8 in all (R98). -/
def Counted (op : Byte) (returned : CallResult) : Prop :=
  ∃ n base, returned = .cycles n ∧ (descriptor op).cycles = some base ∧ base ≤ n ∧ n ≤ base + 2 ∧ 2 ≤ n ∧ n ≤ 8

/-- The table's base counts leave room for the penalty where the row takes it. -/
theorem descriptor_cycles : ∀ op : Byte, ∀ n ∈ (descriptor op).cycles,
    2 ≤ n ∧ (n + if (descriptor op).pageCross then 1 else 0) ≤ 8 := by decide

/-- A branch has the base count 2. -/
theorem branch_cycles : ∀ op : Byte, (descriptor op).mnemonic ∈ branchConditions.map (·.1) → baseCycles op = 2 := by
  decide

theorem counted_cyclesOf {op : Byte} (crossed : Bool) (h : ∃ n, (descriptor op).cycles = some n) :
    Counted op (.cycles (cyclesOf op crossed)) := by
  obtain ⟨n, hn⟩ := h
  have ⟨hlow, hhigh⟩ := descriptor_cycles op n hn
  refine ⟨_, n, rfl, hn, ?_⟩
  rw [cyclesOf, baseCycles, hn, Option.getD_some]
  cases hcross : (descriptor op).pageCross <;> cases crossed <;> simp [hcross] at hhigh ⊢ <;> omega

/-- An instruction that takes no penalty returns its base count. -/
theorem counted_baseCycles {op : Byte} (h : ∃ n, (descriptor op).cycles = some n) :
    Counted op (.cycles (baseCycles op)) := by
  simpa [cyclesOf] using counted_cyclesOf false h

theorem counted_taken {op : Byte} (crossed : Bool) (h : ∃ n, (descriptor op).cycles = some n)
    (hbranch : baseCycles op = 2) : Counted op (.cycles (baseCycles op + 1 + if crossed then 1 else 0)) := by
  obtain ⟨n, hn⟩ := h
  have hbase : n = 2 := by rw [← hbranch, baseCycles, hn, Option.getD_some]
  refine ⟨_, n, rfl, hn, ?_⟩
  rw [hbranch, hbase]
  cases crossed <;> decide

/-! ### The contract of the classes -/

/-- The outcome is a next state within the mnemonic, `k` writes away, with a count of the opcode. -/
def Fulfils (m : String) (inA : Bool) (k : Nat) (op : Byte) (s : State) (out : Out) : Prop :=
  ∃ t, out = .next t ∧ Within m inA k s t ∧ Counted op t.returned

section
variable {m : String} {inA : Bool} {k : Nat} {op : Byte} {s : State}

/-- An instruction that retires owes nothing more than what it did before. -/
theorem fulfils_retire {u : State} (crossed : Bool) (h : ∃ n, (descriptor op).cycles = some n)
    (hu : Within m inA k s u) : Fulfils m inA k op s (.next (retire op crossed u)) :=
  ⟨_, rfl, hu.followed (.retire op crossed), counted_cyclesOf crossed h⟩

/-- So does one that transfers control for its base count. -/
theorem fulfils_transfer {u : State} (pc : Addr) (h : ∃ n, (descriptor op).cycles = some n)
    (hu : Within m inA k s u) : Fulfils m inA k op s (.next { u with pc := pc, returned := .cycles (baseCycles op) }) :=
  ⟨_, rfl, hu.followed (.transfer pc _), counted_baseCycles h⟩

theorem fulfils_branch (cond : Bool) (off : Byte) (h : ∃ n, (descriptor op).cycles = some n)
    (hbranch : baseCycles op = 2) : Fulfils m inA 0 op s (branchClass op cond off s) := by
  cases cond with
  | false => exact fulfils_retire false h .refl
  | true => exact ⟨_, branchClass_taken op off s, .transfer _ _, counted_taken _ h hbranch⟩

theorem Within.enterHandler (ret : Addr) (q : Byte) (vector : Addr) (hsp : m ∈ spWriters) (hi : MayWriteBit m 2) :
    Within m inA 3 s (enterHandler ret q vector s) :=
  ((((pushWord ret hsp).trans (push q hsp)).followed (status (.setI true s.p hi))).followed
    (busReadWord vector)).followed (transfer _ _)

theorem within_returnFromHandler : Within "RTI" inA 0 s (returnFromHandler s) :=
  ((((Within.pull (by decide)).followed (.status (.statusPulledByRti (pull s).1 s.p))).followed
    (.pullWord (by decide))).followed (.transfer _ _))

end

/-! How many writes each class makes, for every mnemonic of its table. -/

theorem classWrites_store : ∀ e ∈ storeValues, ∀ inA, classWrites e.1 inA = 1 := by decide

theorem classWrites_modify : ∀ e ∈ modifySteps, classWrites e.1 false = 1 := by decide

theorem classWrites_accumulator : ∀ op : Byte, (descriptor op).mode = some .accumulator →
    classWrites (descriptor op).mnemonic true = 0 := by decide

theorem classWrites_composite : ∀ e ∈ compositeEffects, ∀ inA, classWrites e.1 inA = 1 := by decide

theorem classWrites_branch : ∀ e ∈ branchConditions, ∀ inA, classWrites e.1 inA = 0 := by decide

/-- Every meaning but a trap's fulfils the contract of its mnemonic. -/
theorem fulfils_of_meaning {i : Instr} {op : Byte} {m : String} (h : Meaning i op m) (hm : (descriptor op).mnemonic = m)
    (hslot : (descriptor op).slot ≠ .trap) (hcycles : ∃ n, (descriptor op).cycles = some n) {inA : Bool}
    (hA : inA = decide ((descriptor op).mode = some .accumulator)) (s : State) :
    Fulfils m inA (classWrites m inA) op s (exec i s) := by
  cases h with
  | implied f h e => rw [e]; exact fulfils_retire false hcycles (within_implied _ h inA s)
  | accumulator f h hmode e =>
    obtain rfl : inA = true := hA.trans (decide_eq_true hmode)
    have hnone : classWrites m true = 0 := hm ▸ classWrites_accumulator op hmode
    rw [e, hnone]
    exact fulfils_retire false hcycles ((within_modify _ h true s.a s).followed (.setA _ (.inr rfl)))
  | immediate f v h e => rw [e]; exact fulfils_retire false hcycles (within_read _ h inA v s)
  | read f r h e =>
    rw [e]
    exact fulfils_retire _ hcycles ((within_read _ h inA (operand r s).1 (operand r s).2).after (.operand r))
  | store f r h e =>
    rw [e, classWrites_store _ h]
    exact fulfils_retire _ hcycles ((Within.busWrite _ _).after (.resolve r))
  | modify f r h hmode e =>
    obtain rfl : inA = false := hA.trans (decide_eq_false hmode)
    rw [e, classWrites_modify _ h]
    exact fulfils_retire _ hcycles
      ((Within.busWrite _ _).after ((Within.operand r).followed (within_modify _ h false (operand r s).1 (operand r s).2)))
  | composite f g r h e =>
    have hstep := fun v u => (within_composite _ h inA v u).1
    have heffect := fun v u => (within_composite _ h inA v u).2
    rw [e, classWrites_composite _ h]
    exact fulfils_retire _ hcycles
      (((Within.busWrite _ _).after ((Within.operand r).followed (hstep (operand r s).1 (operand r s).2))).followed
        (heffect _ _))
  | branch f off h e =>
    rw [e, classWrites_branch _ h]
    exact fulfils_branch _ off hcycles (branch_cycles op (hm ▸ List.mem_map_of_mem h))
  | jumpAbsolute w h e => subst h; rw [e]; exact fulfils_transfer w hcycles .refl
  | jumpIndirect w h e => subst h; rw [e]; exact fulfils_transfer _ hcycles (.resolveIndirect w)
  | jsr w h e => subst h; rw [e]; exact fulfils_transfer w hcycles (.pushWord (s.pc + 2) (by decide))
  | rts h e => subst h; rw [e]; exact fulfils_transfer _ hcycles (.pullWord (by decide))
  | brk h e =>
    subst h
    rw [e]
    exact fulfils_transfer _ hcycles
      (.enterHandler (s.pc + 2) (statusPushedByBreak s.p) Config.irqVector (by decide) (by decide))
  | rti h e => subst h; rw [e]; exact fulfils_transfer _ hcycles within_returnFromHandler
  | trap h e => exact absurd h hslot

/-- Every instruction but a trap answers a next state within its mnemonic, with the writes and a count of its row. -/
theorem exec_fulfils {i : Instr} (hslot : (descriptor i.opcode).slot ≠ .trap) (s : State) :
    Fulfils (mnemonic i) (decide ((descriptor i.opcode).mode = some .accumulator)) (writesOf i) i.opcode s (exec i s) := by
  obtain ⟨hmeaning, hcycles⟩ := exec_meant i
  rw [writesOf_eq]
  exact fulfils_of_meaning hmeaning rfl hslot (hcycles.resolve_left hslot) rfl s

/-! ### The traps -/

/-- The mnemonics of every meaning but a trap's. -/
def meantMnemonics : List String :=
  impliedEffects.map (·.1) ++ readEffects.map (·.1) ++ storeValues.map (·.1) ++ modifySteps.map (·.1) ++
    compositeEffects.map (·.1) ++ branchConditions.map (·.1) ++ ["JMP", "JSR", "RTS", "BRK", "RTI"]

/-- No trap slot of the table has one of them. -/
theorem trap_not_meant : ∀ op : Byte, (descriptor op).slot = .trap → (descriptor op).mnemonic ∉ meantMnemonics := by
  decide

/-- So the instruction of a trap slot has a trap's meaning: it raises Fatal (46_illegal.md R202). -/
theorem exec_trap {i : Instr} (hslot : (descriptor i.opcode).slot = .trap) (s : State) :
    exec i s = .next (raiseFatal i.opcode s) := by
  have hnot := trap_not_meant i.opcode hslot
  obtain ⟨hmeaning, _⟩ := exec_meant i
  simp only [meantMnemonics, List.mem_append, not_or, List.mem_map, not_exists, not_and] at hnot
  obtain ⟨⟨⟨⟨⟨⟨himplied, hread⟩, hstore⟩, hmodify⟩, hcomposite⟩, hbranch⟩, hother⟩ := hnot
  cases hmeaning with
  | trap h e => exact e s
  | implied f h e => exact absurd rfl (himplied _ h)
  | accumulator f h hm e | modify f r h hm e => exact absurd rfl (hmodify _ h)
  | immediate f v h e | read f r h e => exact absurd rfl (hread _ h)
  | store f r h e => exact absurd rfl (hstore _ h)
  | composite f g r h e => exact absurd rfl (hcomposite _ h)
  | branch f off h e => exact absurd rfl (hbranch _ h)
  | jumpAbsolute w h e | jumpIndirect w h e | jsr w h e | rts h e | brk h e | rti h e =>
    rw [h] at hother
    exact absurd (by decide) hother

theorem classWrites_trap : ∀ op : Byte, (descriptor op).slot = .trap → ∀ inA,
    classWrites (descriptor op).mnemonic inA = 0 := by decide

/-- Raising Fatal leaves registers, flags, memory and the access record alone (60_exceptions.md R210). -/
theorem trap_quiet (op : Byte) (s : State) :
    BusPath 0 s (raiseFatal op s) ∧ SameRegisters s (raiseFatal op s) ∧ (raiseFatal op s).p = s.p :=
  ⟨.quiet rfl rfl, ⟨rfl, rfl, rfl, rfl⟩, rfl⟩

/-! ### Every instruction, traps included -/

/-- What every instruction owes, the count apart: the writes of its class, and no register or flag of another's. -/
theorem exec_contract (i : Instr) {s t : State} (h : exec i s = .next t) :
    BusPath (writesOf i) s t ∧
      RegistersOf (mnemonic i) (decide ((descriptor i.opcode).mode = some .accumulator)) s t ∧
      FlagsOf (mnemonic i) s.p t.p := by
  by_cases hslot : (descriptor i.opcode).slot = .trap
  case pos =>
    obtain rfl : raiseFatal i.opcode s = t := by rw [exec_trap hslot] at h; cases h; rfl
    obtain ⟨hpath, hregisters, hp⟩ := trap_quiet i.opcode s
    rw [writesOf_eq, mnemonic, classWrites_trap _ hslot]
    exact ⟨hpath, .same hregisters, .same hp⟩
  case neg =>
    obtain ⟨u, hu, hwithin, _⟩ := exec_fulfils hslot s
    obtain rfl : u = t := by rw [hu] at h; cases h; rfl
    exact ⟨hwithin.path, hwithin.registers, hwithin.flags⟩

/-- Settles O51: a trap raises Fatal, every other instruction leaves everything of `SameControl` alone. -/
theorem everyInstructionAnswersANextState : Obligations.EveryInstructionAnswersANextState := by
  intro i s
  by_cases hslot : (descriptor i.opcode).slot = .trap
  case pos => exact ⟨_, exec_trap hslot s, rfl, rfl, fun h => absurd hslot h⟩
  case neg =>
    obtain ⟨t, ht, hwithin, _⟩ := exec_fulfils hslot s
    obtain ⟨hhalted, hpcValid, hcalls⟩ := hwithin.control
    exact ⟨t, ht, hpcValid, hcalls, fun _ => hhalted⟩

/-- Settles O52: the registers' clause of the contract. -/
theorem registersHaveOnlyTheirWriters : Obligations.RegistersHaveOnlyTheirWriters := by
  intro i s t h
  obtain ⟨_, hregisters, _⟩ := exec_contract i h
  exact ⟨fun hm hA => hregisters.a hm (decide_eq_false hA), hregisters.x, hregisters.y, hregisters.sp⟩

/-- Settles O53: the flags' clause of the contract, for each bit that has a list. -/
theorem flagsHaveOnlyTheirWriters : Obligations.FlagsHaveOnlyTheirWriters := by
  intro i s t h
  obtain ⟨_, _, hflags⟩ := exec_contract i h
  refine ⟨?carry, ?overflow, ?interrupt, ?decimal, fun hm => ?break_⟩
  case carry => exact hflags.kept _ (listed 0 rfl)
  case overflow => exact hflags.kept _ (listed 1 rfl)
  case interrupt => exact hflags.kept _ (listed 2 rfl)
  case decimal => exact hflags.kept _ (listed 3 rfl)
  case break_ => exact hflags.kept _ (listed 4 rfl) (mt List.mem_singleton.mp hm)

/-- Settles O54: the record's clause of the contract. -/
theorem writesAreThoseOfTheClass : Obligations.WritesAreThoseOfTheClass := by
  intro i s t h
  obtain ⟨hpath, _⟩ := exec_contract i h
  exact hpath.record

/-- Settles O55: memory's clause of the contract. -/
theorem onlyRecordedWritesChangeMemory : Obligations.OnlyRecordedWritesChangeMemory := by
  intro i s t b h
  obtain ⟨hpath, _⟩ := exec_contract i h
  exact hpath.memory b

/-- Settles O56: the count's clause of the contract. -/
theorem returnedCountIsTwoToEight : Obligations.ReturnedCountIsTwoToEight := by
  intro i s t h hslot
  obtain ⟨u, hu, _, hcount⟩ := exec_fulfils hslot s
  obtain rfl : u = t := by rw [hu] at h; cases h; rfl
  exact hcount

end Sys2Proof.Proofs
end

section
/-! Proofs about calls, returns and handlers: JSR (44_control_transfer.md R160) with its RTS, and entering and leaving a
handler (60_exceptions.md R222, R223) by BRK, NMI, IRQ and RTI. Before them: what a pushed word and a handler entry leave
on the stack. -/

namespace Sys2Proof.Proofs

open Sys2Proof Sys2Proof.Machine Sys2Proof.Spec Sys2Proof.Laws

/-! ### The slots below SP -/

theorem sp_sub_one_sub_one (sp : Byte) : sp - 1 - 1 = sp - 2 := BitVec.sub_sub sp 1 1

theorem sp_sub_one_sub_one_sub_one (sp : Byte) : sp - 1 - 1 - 1 = sp - 3 := by
  rw [sp_sub_one_sub_one, BitVec.sub_sub]
  rfl

/-- The three slots that an entry pushed into, from SP after it. -/
theorem sp_sub_three_add (sp : Byte) : sp - 3 + 1 = sp - 2 ∧ sp - 3 + 1 + 1 = sp - 1 ∧ sp - 3 + 1 + 2 = sp := by bv_omega

theorem slot_inj {a b : Byte} (h : slot a = slot b) : a = b := BitVec.eq_of_toNat_eq (Nat.add_left_cancel h)

theorem slot_sub_one_ne (sp : Byte) : slot (sp - 1) ≠ slot sp := fun h => by
  have := slot_inj h
  bv_omega

theorem slot_sub_two_ne (sp : Byte) : slot (sp - 2) ≠ slot sp ∧ slot (sp - 2) ≠ slot (sp - 1) :=
  ⟨fun h => by have := slot_inj h; bv_omega, fun h => by have := slot_inj h; bv_omega⟩

/-- The stack ends below page 2 (10_state.md R25). -/
theorem slot_lt (sp : Byte) : slot sp < 512 := by
  have := sp.isLt
  rw [slot]
  omega

/-- A push changes no byte outside its slot. -/
theorem push_read_outside (v : Byte) (s : State) {b : Nat} (h : b ≠ slot s.sp) :
    Memory.read (push v s).mem b = Memory.read s.mem b := push_read_other v s (by rwa [stackAddr_toNat])

theorem push_accesses_slot (v : Byte) (s : State) :
    (push v s).accesses = s.accesses ++ [.write (BitVec.ofNat 16 (slot s.sp)) v] := by
  rw [push_accesses, stackAddr_eq_slot]

theorem plainRam_push {s : State} (v : Byte) (h : PlainRam s) : PlainRam (push v s) := by
  obtain ⟨hscript, hwf⟩ := h
  exact ⟨by rw [push_script, hscript, List.tail_nil], push_wf v hwf⟩

/-! ### A pushed word -/

/-- The writes of a pushed word, high byte first (R160). -/
theorem pushWord_accesses (w : Addr) (s : State) :
    (pushWord w s).accesses = s.accesses ++ [.write (BitVec.ofNat 16 (slot s.sp)) (BitVec.ofNat 8 (w.toNat / 256)),
      .write (BitVec.ofNat 16 (slot (s.sp - 1))) (BitVec.ofNat 8 w.toNat)] := by
  rw [pushWord, push_accesses_slot, push_accesses_slot, push_sp, hi_eq_ofNat, lo_eq_ofNat, List.append_assoc,
    List.singleton_append]

/-- A pushed word changes no byte outside its two slots. -/
theorem pushWord_read_outside (w : Addr) (s : State) {b : Nat} (h : b ≠ slot s.sp) (h' : b ≠ slot (s.sp - 1)) :
    Memory.read (pushWord w s).mem b = Memory.read s.mem b := by
  rw [pushWord, push_read_outside _ _ (by rwa [push_sp]), push_read_outside _ _ h]

/-- On a plain-RAM bus the two slots hold the word pushed. -/
theorem pushWord_ramWord {s : State} (w : Addr) (h : PlainRam s) :
    ramWord (pushWord w s).mem (slot (s.sp - 1)) (slot s.sp) = w.toNat := by
  have hlow : Memory.read (pushWord w s).mem (slot (s.sp - 1)) = lo w :=
    push_read_slot (s := push (hi w) s) (lo w) (plainRam_push (hi w) h)
  have hhigh : Memory.read (pushWord w s).mem (slot s.sp) = hi w := by
    rw [pushWord, push_read_outside _ _ (by rw [push_sp]; exact (slot_sub_one_ne s.sp).symm), push_read_slot _ h]
  rw [ramWord, hlow, hhigh, ← word_toNat, word_hi_lo]

/-! ### JSR, and RTS after it -/

/-- The JSR arm: the address of its last byte is pushed and PC takes the operand word (R160). -/
theorem exec_jsr (w : Addr) (s : State) :
    exec (.jsr w) s = .next { pushWord (s.pc + 2) s with pc := w, returned := .cycles (baseCycles 0x20) } := rfl

/-- Settles O19: JSR is one pushed word, whose writes and slots are those of `pushWord`. -/
theorem jsrPushesItsReturnAddress : Obligations.JsrPushesItsReturnAddress := fun s w =>
  ⟨rfl, rfl, _, exec_jsr w s, rfl, ⟨rfl, rfl, rfl⟩, rfl, sp_sub_one_sub_one s.sp, rfl, rfl, rfl, rfl,
    pushWord_accesses (s.pc + 2) s, pushWord_ramWord (s.pc + 2), fun b hb => by
      simp only [List.mem_cons, List.not_mem_nil, or_false, not_or] at hb
      obtain ⟨h, h'⟩ := hb
      exact pushWord_read_outside (s.pc + 2) s h h'⟩

/-- On a plain-RAM bus a pull of a word from a stack pushed on last gives the word back: `t` is any state with the
pushed stack. -/
theorem pullWord_of_pushWord {s t : State} (w : Addr) (h : PlainRam s) (hmem : t.mem = (pushWord w s).mem)
    (hsp : t.sp = s.sp - 2) (hscript : t.script = []) : (pullWord t).1 = w := by
  have hlow : t.sp + 1 = s.sp - 1 := by rw [hsp, ← sp_sub_one_sub_one, BitVec.sub_add_cancel]
  have hhigh : t.sp + 2 = s.sp := by rw [hsp, BitVec.sub_add_cancel]
  apply BitVec.eq_of_toNat_eq
  rw [pullWord_ram hscript, hmem, hlow, hhigh, pushWord_ramWord w h]

/-- Settles O21: RTS pulls the word that JSR pushed, and PC is its successor. -/
theorem jsrThenRtsComesBack : Obligations.JsrThenRtsComesBack := by
  intro s w h
  have hback : (pullWord { pushWord (s.pc + 2) s with pc := w, returned := .cycles (baseCycles 0x20) }).1 = s.pc + 2 :=
    pullWord_of_pushWord (s.pc + 2) h rfl (sp_sub_one_sub_one s.sp) (plainRam_pushWord _ h).1
  have hsp : s.sp - 1 - 1 + 1 + 1 = s.sp := by rw [BitVec.sub_add_cancel, BitVec.sub_add_cancel]
  exact ⟨_, _, exec_jsr w s, exec_rts _, (congrArg (· + 1) hback).trans (BitVec.add_assoc s.pc 2 1),
    ⟨rfl, rfl, rfl, hsp⟩, rfl⟩

/-! ### Entering a handler -/

/-- The word of two bytes read from the bus, low byte first. -/
def readPair (a b : Addr) (s : State) : Addr × State :=
  let l := busRead a s
  let h := busRead b l.2
  (word h.1 l.1, h.2)

/-- A word read from the bus: its bytes and its two reads (20_memory.md R42). -/
theorem readPair_reads (a b : Addr) (s : State) :
    ∃ l h, (readPair a b s).2.accesses = s.accesses ++ [.read a l, .read b h] ∧
      (readPair a b s).1.toNat = l.toNat + 256 * h.toNat := by
  refine ⟨(busRead a s).1, (busRead b (busRead a s).2).1, ?_, word_toNat _ _⟩
  rw [readPair, busRead_accesses, busRead_accesses, List.append_assoc, List.singleton_append]

/-- On a plain-RAM bus it is memory's word. -/
theorem readPair_ram (a b : Addr) {s : State} (h : s.script = []) :
    (readPair a b s).1.toNat = ramWord s.mem a.toNat b.toNat := by
  rw [readPair, word_toNat, busRead_ram a h, busRead_ram b (by simp [h])]
  rfl

theorem busReadWord_reads (ad : Addr) (s : State) :
    ∃ l h, (busReadWord ad s).1.toNat = l.toNat + 256 * h.toNat ∧
      (busReadWord ad s).2.accesses = s.accesses ++ [.read ad l, .read (ad + 1) h] := by
  obtain ⟨l, h, haccesses, hword⟩ := readPair_reads ad (ad + 1) s
  exact ⟨l, h, hword, haccesses⟩

section
variable (ret : Addr) (q : Byte) (vector : Addr) (s : State)

/-- The entry takes PC from the vector, in the state after the pushes. -/
theorem enterHandler_pc : (enterHandler ret q vector s).pc =
    (busReadWord vector { push q (pushWord ret s) with p := setI true s.p }).1 := rfl

/-- The record of an entry: three writes, then the two reads of the vector that give PC (R222). -/
theorem enterHandler_reads :
    ∃ l h, (enterHandler ret q vector s).pc.toNat = l.toNat + 256 * h.toNat ∧
      (enterHandler ret q vector s).accesses = s.accesses ++
        [.write (BitVec.ofNat 16 (slot s.sp)) (BitVec.ofNat 8 (ret.toNat / 256)),
         .write (BitVec.ofNat 16 (slot (s.sp - 1))) (BitVec.ofNat 8 ret.toNat),
         .write (BitVec.ofNat 16 (slot (s.sp - 2))) q, .read vector l, .read (vector + 1) h] := by
  obtain ⟨l, h, hpc, haccesses⟩ := busReadWord_reads vector { push q (pushWord ret s) with p := setI true s.p }
  refine ⟨l, h, hpc, haccesses.trans ?_⟩
  change (push q (pushWord ret s)).accesses ++ _ = _
  rw [push_accesses_slot, pushWord_accesses, pushWord_sp, sp_sub_one_sub_one]
  simp only [List.append_assoc, List.cons_append, List.nil_append]

/-- An entry changes no byte outside the three slots (R222). -/
theorem enterHandler_read_outside {b : Nat} (h : b ∉ [slot s.sp, slot (s.sp - 1), slot (s.sp - 2)]) :
    Memory.read (enterHandler ret q vector s).mem b = Memory.read s.mem b := by
  simp only [List.mem_cons, List.not_mem_nil, or_false, not_or] at h
  obtain ⟨h0, h1, h2⟩ := h
  rw [enterHandler_mem, push_read_outside _ _ (by rwa [pushWord_sp, sp_sub_one_sub_one]), pushWord_read_outside ret s h0 h1]

/-- On a plain-RAM bus, with the vector outside the stack page, PC is memory's vector: the pushes did not change it. -/
theorem enterHandler_pc_ram {s : State} {low high : Nat} (hscript : s.script = [])
    (hlow : vector.toNat = low ∧ 512 ≤ low) (hhigh : (vector + 1).toNat = high ∧ 512 ≤ high) :
    (enterHandler ret q vector s).pc.toNat = ramWord s.mem low high := by
  have hout : ∀ b, 512 ≤ b → Memory.read (push q (pushWord ret s)).mem b = Memory.read s.mem b := fun b hb =>
    enterHandler_read_outside ret q vector s fun hmem => by
      simp only [List.mem_cons, List.not_mem_nil, or_false] at hmem
      rcases hmem with rfl | rfl | rfl <;> exact absurd (slot_lt _) (Nat.not_lt.mpr hb)
  rw [enterHandler_pc, busReadWord_toNat _ (by simp [hscript])]
  change (Memory.read (push q (pushWord ret s)).mem _).toNat + 256 * (Memory.read (push q (pushWord ret s)).mem _).toNat = _
  rw [hlow.1, hhigh.1, hout _ hlow.2, hout _ hhigh.2, ramWord]

/-- On a plain-RAM bus the first two slots hold the return address. -/
theorem enterHandler_ramWord {s : State} (h : PlainRam s) :
    ramWord (enterHandler ret q vector s).mem (slot (s.sp - 1)) (slot s.sp) = ret.toNat := by
  obtain ⟨h0, h1⟩ := slot_sub_two_ne s.sp
  rw [ramWord, enterHandler_mem, push_read_outside _ _ (by rw [pushWord_sp, sp_sub_one_sub_one]; exact h1.symm),
    push_read_outside _ _ (by rw [pushWord_sp, sp_sub_one_sub_one]; exact h0.symm), ← ramWord, pushWord_ramWord ret h]

end

/-- Setting I changes bit 2 at most. -/
theorem sameFlagsBut_setI {b : Bool} {s t : State} (h : t.p = setI b s.p) : SameFlagsBut [2] s t := by
  intro k _ hk
  rw [h, setI_getLsbD, if_neg (mt List.mem_singleton.mpr hk)]

/-- Settles O30: BRK is the entry with PC + 2 and P as a break pushes it, through the vector at 0xFFFE. -/
theorem brkEntersTheHandler : Obligations.BrkEntersTheHandler := by
  intro s
  have hreads := enterHandler_reads (s.pc + 2) (statusPushedByBreak s.p) Config.irqVector s
  have hpc := fun h : s.script = [] =>
    enterHandler_pc_ram (s.pc + 2) (statusPushedByBreak s.p) Config.irqVector (low := 0xFFFE) (high := 0xFFFF) h
      (by decide) (by decide)
  have hret := enterHandler_ramWord (s.pc + 2) (statusPushedByBreak s.p) Config.irqVector (s := s)
  have hstatus := enterHandler_read_slot (s.pc + 2) (statusPushedByBreak s.p) Config.irqVector (s := s)
  have hmemory := fun b => enterHandler_read_outside (s.pc + 2) (statusPushedByBreak s.p) Config.irqVector s (b := b)
  exact ⟨rfl, rfl, _, exec_brk s, rfl, ⟨rfl, rfl, rfl⟩, hreads, fun h => ⟨hpc h.1, hret h, hstatus h⟩,
    sp_sub_one_sub_one_sub_one s.sp, flagI_setI true s.p, sameFlagsBut_setI rfl, rfl, rfl, rfl, hmemory⟩

/-- What the entry that `nmi()` and a taken `irq()` share does (R215, R216). -/
def EntersHandler (vector : Addr) (low high : Nat) (rest : List Call) (s t : State) : Prop :=
  t.returned = .cycles 7 ∧
    (∃ l h, t.pc.toNat = l.toNat + 256 * h.toNat ∧ t.accesses =
      [.write (BitVec.ofNat 16 (slot s.sp)) (BitVec.ofNat 8 (s.pc.toNat / 256)),
       .write (BitVec.ofNat 16 (slot (s.sp - 1))) (BitVec.ofNat 8 s.pc.toNat),
       .write (BitVec.ofNat 16 (slot (s.sp - 2))) ((s.p &&& 0xEF) ||| 0x20), .read vector l, .read (vector + 1) h]) ∧
    (s.script = [] → t.pc.toNat = ramWord s.mem low high) ∧
    t.sp = s.sp - 3 ∧ flagI t.p = true ∧ SameFlagsBut [2] s t ∧ t.a = s.a ∧ t.x = s.x ∧ t.y = s.y ∧
    t.halted = none ∧ t.pcValid = true ∧ t.calls = rest ∧
    SameMemoryBut [slot s.sp, slot (s.sp - 1), slot (s.sp - 2)] s t

theorem entersHandler_interruptEntry (vector : Addr) {low high : Nat} (rest : List Call) {s : State}
    (hrun : s.halted = none) (hpc : s.pcValid = true) (hlow : vector.toNat = low ∧ 512 ≤ low)
    (hhigh : (vector + 1).toNat = high ∧ 512 ≤ high) :
    EntersHandler vector low high rest s
      (interruptEntry vector (beginCall { s with calls := rest })) :=
  ⟨rfl, enterHandler_reads s.pc (statusPushedByInterrupt s.p) vector (beginCall { s with calls := rest }),
    fun hscript => enterHandler_pc_ram (s := beginCall { s with calls := rest }) s.pc (statusPushedByInterrupt s.p)
      vector hscript hlow hhigh,
    sp_sub_one_sub_one_sub_one s.sp, flagI_setI true s.p, sameFlagsBut_setI rfl, rfl, rfl, rfl, hrun, hpc, rfl,
    fun _ hb => enterHandler_read_outside s.pc (statusPushedByInterrupt s.p) vector (beginCall { s with calls := rest }) hb⟩

/-- Settles O36: a step for `nmi()` on a running core is the entry through 0xFFFA, whatever I holds. -/
theorem nmiEntersTheHandler : Obligations.NmiEntersTheHandler := fun s rest hrun hpc =>
  ⟨_, (step_call .nmi rest s).trans (nmi_running (s := { s with calls := rest }) hrun hpc),
    entersHandler_interruptEntry Config.nmiVector rest hrun hpc (by decide) (by decide)⟩

/-- Settles O37: a step for `irq()` on a running core is the entry through 0xFFFE with I = 0, and nothing with I = 1. -/
theorem irqIsTakenOnlyWithInterruptsEnabled : Obligations.IrqIsTakenOnlyWithInterruptsEnabled := fun s rest hrun hpc =>
  ⟨fun hi => (step_call .irq rest s).trans (irq_masked (s := { s with calls := rest }) hrun hpc hi),
    fun hi => ⟨_, (step_call .irq rest s).trans (irq_taken (s := { s with calls := rest }) hrun hpc hi),
      entersHandler_interruptEntry Config.irqVector rest hrun hpc (by decide) (by decide)⟩⟩

/-! ### Leaving a handler -/

/-- The RTI arm (R182). -/
theorem exec_rti (s : State) :
    exec .rti s = .next { returnFromHandler s with returned := .cycles (baseCycles 0x40) } := rfl

theorem returnFromHandler_pc (s : State) : (returnFromHandler s).pc = (pullWord (pull s).2).1 := rfl

theorem returnFromHandler_accesses (s : State) : (returnFromHandler s).accesses = (pullWord (pull s).2).2.accesses := rfl

theorem sp_add_one_add_two (sp : Byte) : sp + 1 + 2 = sp + 3 := BitVec.add_assoc sp 1 2

/-- Settles O31: RTI is the pull of P and then of a word, whose reads and bytes are those of `pull` and `pullWord`. -/
theorem rtiRestoresStatusAndPc : Obligations.RtiRestoresStatusAndPc := by
  intro s
  refine ⟨rfl, rfl, _, exec_rti s, rfl, ⟨rfl, rfl, rfl⟩,
    ⟨(pull s).1, _, _, rfl, pullWord_toNat (pull s).2, ?accesses⟩, fun h => ⟨?status, ?pc⟩, ?sp, rfl, rfl, rfl, fun _ => rfl⟩
  case accesses =>
    change (returnFromHandler s).accesses = _
    rw [returnFromHandler_accesses, pullWord_accesses, pull_accesses_slot, pull_sp, sp_add_one_add_one, sp_add_one_add_two,
      List.append_assoc, List.singleton_append]
  case status =>
    change statusPulledByRti (pull s).1 = _
    rw [pull_ram h, statusPulledByRti]
  case pc =>
    change (pullWord (pull s).2).1.toNat = _
    rw [pullWord_ram (by rw [pull_script, h, List.tail_nil]), pull_mem, pull_sp, sp_add_one_add_one, sp_add_one_add_two]
  case sp =>
    change s.sp + 1 + 1 + 1 = s.sp + 3
    rw [sp_add_one_add_one, BitVec.add_assoc]
    rfl

/-! ### Leaving the handler just entered -/

/-- On a plain-RAM bus RTI on a stack that an entry pushed on last gives back its return address and its status byte, and
SP: `t` is any state with that stack. -/
theorem returnFromHandler_of_entry {s t : State} (ret : Addr) (q : Byte) (vector : Addr) (h : PlainRam s)
    (hmem : t.mem = (enterHandler ret q vector s).mem) (hsp : t.sp = s.sp - 3) (hscript : t.script = []) :
    (returnFromHandler t).pc = ret ∧ (returnFromHandler t).p = statusPulledByRti q ∧ (returnFromHandler t).sp = s.sp := by
  obtain ⟨h1, h2, h3⟩ := hsp ▸ sp_sub_three_add s.sp
  refine ⟨BitVec.eq_of_toNat_eq ?pc, ?p, ?sp⟩
  case pc =>
    rw [returnFromHandler_pc, pullWord_ram (by rw [pull_script, hscript, List.tail_nil]), pull_mem, pull_sp, h2, h3, hmem,
      enterHandler_ramWord ret q vector h]
  case p => rw [returnFromHandler_p, pull_ram hscript, h1, hmem, enterHandler_read_slot ret q vector h]
  case sp => rw [returnFromHandler_sp, BitVec.add_assoc (t.sp + 1)]; exact h3

/-- RTI after an entry that returns to `ret` comes back there with every flag but B and U as before the entry; B is that
of the status byte `q` the entry pushed. -/
def ComesBack (ret : Addr) (b : Bool) (s : State) (entry : Out) : Prop :=
  ∃ t u, entry = .next t ∧ exec .rti t = .next u ∧ u.pc = ret ∧ SameRegisters s u ∧ SameFlagsBut [4, 5] s u ∧
    flagB u.p = b

theorem comesBack_of_entry {s t : State} {ret : Addr} {b : Bool} (q : Byte) (vector : Addr) {entry : Out} (h : PlainRam s)
    (hentry : entry = .next t) (hmem : t.mem = (enterHandler ret q vector s).mem) (hsp : t.sp = s.sp - 3)
    (hscript : t.script = []) (hother : t.a = s.a ∧ t.x = s.x ∧ t.y = s.y)
    (hq : ∀ k, k < 8 → k ∉ [4, 5] → q.getLsbD k = s.p.getLsbD k) (hb : flagB q = b) : ComesBack ret b s entry := by
  obtain ⟨hpc, hp, hsp'⟩ := returnFromHandler_of_entry ret q vector h hmem hsp hscript
  obtain ⟨ha, hx, hy⟩ := hother
  refine ⟨t, _, hentry, exec_rti t, hpc, ⟨ha, hx, hy, hsp'⟩, fun k hk hk' => ?flags, ?break_⟩
  case flags =>
    have h5 : k ≠ 5 := fun h => hk' (by rw [h]; decide)
    change (returnFromHandler t).p.getLsbD k = _
    rw [hp, statusPulledByRti_getLsbD, decide_eq_false h5, Bool.or_false, hq k hk hk']
  case break_ =>
    change flagB (returnFromHandler t).p = b
    rw [hp, flagB_statusPulledByRti, hb]

/-- The bytes of P that are pushed differ from P in B and U alone (R35). -/
theorem statusPushedByBreak_getLsbD (p : Byte) {k : Nat} (hk : k < 8) (h : k ∉ [4, 5]) :
    (statusPushedByBreak p).getLsbD k = p.getLsbD k := by
  have hmask : (0x30 : Byte).getLsbD k = false := by revert h; revert k; decide
  rw [statusPushedByBreak, BitVec.getLsbD_or, hmask, Bool.or_false]

theorem statusPushedByInterrupt_getLsbD (p : Byte) {k : Nat} (hk : k < 8) (h : k ∉ [4, 5]) :
    (statusPushedByInterrupt p).getLsbD k = p.getLsbD k := by
  have hmask : (0xEF : Byte).getLsbD k = true ∧ (0x20 : Byte).getLsbD k = false := by revert h; revert k; decide
  rw [statusPushedByInterrupt, BitVec.getLsbD_or, BitVec.getLsbD_and, hmask.1, hmask.2, Bool.and_true, Bool.or_false]

theorem flagB_statusPushedByBreak (p : Byte) : flagB (statusPushedByBreak p) = true := by
  rw [flagB, statusPushedByBreak, BitVec.getLsbD_or]
  exact Bool.or_true _

theorem flagB_statusPushedByInterrupt (p : Byte) : flagB (statusPushedByInterrupt p) = false := by
  rw [flagB, statusPushedByInterrupt, BitVec.getLsbD_or, BitVec.getLsbD_and]
  exact (Bool.or_false _).trans (Bool.and_false _)

theorem enterHandler_script {s : State} (ret : Addr) (q : Byte) (vector : Addr) (h : s.script = []) :
    (enterHandler ret q vector s).script = [] := by
  change (busReadWord vector { push q (pushWord ret s) with p := setI true s.p }).2.script = []
  rw [busReadWord_script, push_script, pushWord_script, h]
  rfl

/-- RTI undoes the entry of `nmi()` and a taken `irq()`. -/
theorem comesBack_interruptEntry {s : State} (vector : Addr) {entry : Out} (h : PlainRam s)
    (hentry : entry = .next (interruptEntry vector (beginCall s))) : ComesBack s.pc false s entry :=
  comesBack_of_entry (statusPushedByInterrupt s.p) vector h hentry rfl (sp_sub_one_sub_one_sub_one s.sp)
    (enterHandler_script s.pc (statusPushedByInterrupt s.p) vector (s := beginCall s) h.1) ⟨rfl, rfl, rfl⟩
    (fun _ hk hk' => statusPushedByInterrupt_getLsbD s.p hk hk') (flagB_statusPushedByInterrupt s.p)

/-- Settles O38: each of the three entries leaves on the stack what RTI pulls. -/
theorem rtiUndoesHandlerEntry : Obligations.RtiUndoesHandlerEntry := by
  intro s h
  refine ⟨?brk, fun hrun hpc => ⟨?nmi, fun hi => ?irq⟩⟩
  case brk =>
    exact comesBack_of_entry (statusPushedByBreak s.p) Config.irqVector h (exec_brk s) rfl
      (sp_sub_one_sub_one_sub_one s.sp) (enterHandler_script _ _ _ h.1) ⟨rfl, rfl, rfl⟩
      (fun _ hk hk' => statusPushedByBreak_getLsbD s.p hk hk') (flagB_statusPushedByBreak s.p)
  case nmi => exact comesBack_interruptEntry Config.nmiVector h (nmi_running hrun hpc)
  case irq => exact comesBack_interruptEntry Config.irqVector h (irq_taken hrun hpc hi)

end Sys2Proof.Proofs
end

section
/-! Proofs about the calls of the driver: the step (30_encoding.md R61, 20_memory.md R44), the invariant that every step
keeps (10_state.md R34, 60_exceptions.md R210), the controller's states (R219), reset (70_reset_and_hazards.md R241, R242)
and `get_registers()` (10_state.md R37). -/

namespace Sys2Proof.Proofs

open Sys2Proof Sys2Proof.Machine Sys2Proof.Spec Sys2Proof.Laws

/-! ### The fetch -/

/-- The state after a fetch of `n` operand bytes (20_memory.md R44). -/
def afterFetch (n : Nat) (s : State) : State :=
  let op := busRead s.pc s
  let b1 := busRead (s.pc + 1) op.2
  let b2 := busRead (s.pc + 2) b1.2
  if n = 0 then op.2 else if n = 1 then b1.2 else b2.2

/-- The bytes at PC and the two places after it, as the bus answers when all three are read. -/
def fetchBytes (s : State) : Byte × Byte × Byte :=
  let op := busRead s.pc s
  let b1 := busRead (s.pc + 1) op.2
  let b2 := busRead (s.pc + 2) b1.2
  (op.1, b1.1, b2.1)

/-- The fetch decodes the bytes at PC, although it reads those of the form alone: no form uses another. -/
theorem fetch_eq (s : State) :
    fetch s = (decodeBytes (fetchBytes s).1 (fetchBytes s).2.1 (fetchBytes s).2.2,
      afterFetch (descriptor (fetchBytes s).1).form.operandBytes s) := by
  unfold fetch decodeBytes fetchBytes afterFetch
  dsimp only
  cases hform : (descriptor (busRead s.pc s).1).form <;> simp [Form.operandBytes, Form.instr]

/-- The fetched instruction has the opcode at PC. -/
theorem opcode_fetch (s : State) : (fetch s).1.opcode = (busRead s.pc s).1 := by
  rw [fetch_eq, opcode_decodeBytes]
  rfl

/-- Three bytes hold an instruction whatever they are, and it is that of `decodeBytes`. -/
theorem decode_three (op b1 b2 : Byte) : ∃ rest, decode [op, b1, b2] = .ok (decodeBytes op b1 b2, rest) := by
  cases hform : (descriptor op).form <;> simp only [decode, decodeBytes, hform, Form.instr] <;> exact ⟨_, rfl⟩

theorem decodeBytes_of_decode {op b1 b2 : Byte} {i : Instr} {rest : List Byte} (h : decode [op, b1, b2] = .ok (i, rest)) :
    decodeBytes op b1 b2 = i := by
  obtain ⟨rest', h'⟩ := decode_three op b1 b2
  rw [h'] at h
  cases h
  rfl

theorem operandBytes_le (f : Form) : f.operandBytes ≤ 2 := by
  cases f <;> simp only [Form.operandBytes] <;> decide

/-- On a plain-RAM bus a fetch records memory's bytes at PC and after, as many as asked for. -/
theorem afterFetch_ram {n : Nat} {s : State} (hn : n ≤ 2) (hscript : s.script = []) (haccesses : s.accesses = []) :
    afterFetch n s = { s with
      accesses := (List.range (n + 1)).map fun k =>
        BusAccess.read (s.pc + BitVec.ofNat 16 k) (Memory.read s.mem (s.pc + BitVec.ofNat 16 k).toNat) } := by
  obtain ⟨pc, sp, a, x, y, p, mem, halted, pcValid, accesses, returned, calls, script⟩ := s
  subst hscript haccesses
  have hpc : pc.toNat % 65536 = pc.toNat := Nat.mod_eq_of_lt pc.isLt
  match n, hn with
  | 0, _ | 1, _ | 2, _ => simp [afterFetch, busRead, List.range_succ, hpc]

/-- On a plain-RAM bus the bytes are memory's. -/
theorem fetchBytes_ram {s : State} (hscript : s.script = []) :
    fetchBytes s = (Memory.read s.mem (s.pc + BitVec.ofNat 16 0).toNat, Memory.read s.mem (s.pc + BitVec.ofNat 16 1).toNat,
      Memory.read s.mem (s.pc + BitVec.ofNat 16 2).toNat) := by
  have hpc : s.pc + BitVec.ofNat 16 0 = s.pc := BitVec.add_zero s.pc
  rw [hpc]
  simp [fetchBytes, busRead, hscript]

/-- A step for `tick()`, asked for or implied, on a running core (log 5). -/
theorem step_tick {s : State} {asked later : List Call} (hrun : s.halted = none) (hpc : s.pcValid = true)
    (hasked : asked = .tick :: later ∨ (asked = [] ∧ later = [])) :
    step { s with calls := asked } =
      exec (fetch { s with calls := later, accesses := [] }).1 (fetch { s with calls := later, accesses := [] }).2 := by
  have hstep : step { s with calls := asked } = tickWith exec { s with calls := later } := by
    rcases hasked with rfl | ⟨rfl, rfl⟩
    · exact step_call .tick later s
    · exact step_idle s
  exact hstep.trans (tick_running (s := { s with calls := later }) hrun hpc exec)

/-- `exec` of a fetched instruction, by the bytes it was decoded from. -/
theorem exec_fetch {s : State} {op b1 b2 : Byte} {i : Instr} {rest : List Byte} (h : fetchBytes s = (op, b1, b2))
    (hdecode : decode [op, b1, b2] = .ok (i, rest)) :
    exec (fetch s).1 (fetch s).2 = exec i (afterFetch (descriptor op).form.operandBytes s) := by
  rw [fetch_eq, h]
  exact congrArg (exec · _) (decodeBytes_of_decode hdecode)

/-- Settles O47: the step is `exec` of the fetched instruction, and the fetch is that of the bytes at PC. -/
theorem stepRunsTheDecodedInstruction : Obligations.StepRunsTheDecodedInstruction := by
  intro s asked later i rest hrun hpc hasked
  have hstep := step_tick hrun hpc hasked
  refine ⟨fun hdecode => hstep.trans (exec_fetch rfl hdecode), fun hscript hdecode => ?ram⟩
  have hbytes := fetchBytes_ram (s := { s with calls := later, accesses := [] }) hscript
  have hafter := fun f => afterFetch_ram (s := { s with calls := later, accesses := [] }) (operandBytes_le f) hscript rfl
  exact hstep.trans ((exec_fetch hbytes hdecode).trans (congrArg (exec i) (hafter _)))

/-! ### The invariant -/

/-- Settles O57. -/
theorem resetMeetsTheInvariant : Obligations.ResetMeetsTheInvariant :=
  ⟨reset_wf, rfl, fun _ h => nomatch h⟩

/-- On a core that is not halted the invariant is about memory and bit 5 of P. -/
theorem inv_of_running {t : State} (hwf : Memory.wf t.mem = true) (hu : flagU t.p = true) (h : t.halted = none) : Inv t :=
  ⟨hwf, hu, fun r hr => by rw [h] at hr; cases hr⟩

/-- An instruction keeps the invariant on a running core; a trap leaves the record the invariant asks for. -/
theorem inv_exec {i : Instr} {s t : State} (hs : Inv s) (hrun : s.halted = none) (hpc : s.pcValid = true)
    (h : exec i s = .next t) : Inv t := by
  obtain ⟨hwf, hu, _⟩ := hs
  by_cases hslot : (descriptor i.opcode).slot = .trap
  case pos =>
    rw [exec_trap hslot] at h
    cases h
    refine ⟨hwf, hu, fun r hr => ?_⟩
    cases hr
    exact ⟨hslot, rfl, rfl, hpc⟩
  case neg =>
    obtain ⟨u, hnext, hwithin, _⟩ := exec_fulfils hslot s
    rw [hnext] at h
    cases h
    obtain ⟨hhalted, _⟩ := hwithin.control
    exact inv_of_running (hwithin.path.wf hwf) (hwithin.flags.unused hu) (hhalted.trans hrun)

/-- The entry of NMI and IRQ keeps the invariant on a running core. -/
theorem inv_interruptEntry {s : State} (vector : Addr) (hs : Inv s) (hrun : s.halted = none) :
    Inv (interruptEntry vector s) := by
  obtain ⟨hwf, hu, _⟩ := hs
  exact inv_of_running (enterHandler_wf s.pc (statusPushedByInterrupt s.p) vector hwf) ((flagU_setI true s.p).trans hu) hrun

/-- The fetch keeps the invariant on a running core. -/
theorem inv_fetch {s : State} (hs : Inv s) (hrun : s.halted = none) : Inv (fetch s).2 := by
  obtain ⟨hwf, hu, _⟩ := hs
  obtain ⟨_, _, _, _, _, hp, hmem, hhalted, _⟩ := fetch_frame s
  exact inv_of_running (hmem ▸ hwf) (hp ▸ hu) (hhalted.trans hrun)

/-- A guarded call keeps the invariant if it does on a running core: the two refusals change outputs alone. -/
theorem inv_guarded {s t : State} {run : State → Out} (hs : Inv s) (h : guarded s run = .next t)
    (hrun : s.halted = none → s.pcValid = true → run (beginCall s) = .next t → Inv t) : Inv t := by
  rcases guarded_cases s run with ⟨_, heq⟩ | ⟨hhalted, hpc, heq⟩ | ⟨_, _, heq⟩
  case inl => rw [heq] at h; cases h; exact hs
  case inr.inl => exact hrun hhalted hpc (heq ▸ h)
  case inr.inr => rw [heq] at h; cases h; exact hs

/-- Every call keeps the invariant. -/
theorem inv_performCall {c : Call} {s t : State} (hs : Inv s) (h : performCall exec c s = .next t) : Inv t := by
  cases c with
  | tick =>
    rw [performCall_tick, tickWith] at h
    refine inv_guarded hs h fun hrun hpc hexec => ?_
    obtain ⟨_, _, _, _, _, _, _, hhalted, hpcValid, _⟩ := fetch_frame (beginCall s)
    exact inv_exec (inv_fetch (s := beginCall s) hs hrun) (hhalted.trans hrun) (hpcValid.trans hpc) hexec
  | nmi =>
    rw [performCall_nmi, nmi] at h
    refine inv_guarded hs h fun hrun _ hentry => ?_
    cases hentry
    exact inv_interruptEntry (s := beginCall s) Config.nmiVector hs hrun
  | irq =>
    rw [performCall_irq, irq] at h
    refine inv_guarded hs h fun hrun _ hentry => ?_
    split at hentry <;> cases hentry
    · exact hs
    · exact inv_interruptEntry (s := beginCall s) Config.irqVector hs hrun
  | reset =>
    by_cases hhalted : s.halted = none
    case pos =>
      rw [performCall_reset, resetCall_running hhalted] at h
      cases h
      obtain ⟨hwf, hu, _⟩ := hs
      exact inv_of_running hwf ((flagU_setI true s.p).trans hu) hhalted
    case neg =>
      rw [performCall_reset, resetCall_halted hhalted] at h
      cases h
      exact hs
  | getRegisters => cases h; exact hs

/-- Settles O58: a step is a call, and every call keeps the invariant. -/
theorem everyStepKeepsTheInvariant : Obligations.EveryStepKeepsTheInvariant := by
  intro s t hs h
  obtain ⟨c, rest, hstep⟩ := step_eq s
  exact inv_performCall (s := { s with calls := rest }) hs (hstep ▸ h)

/-! ### The halted core -/

/-- Settles O33: the two guards refuse the four calls, and `get_registers()` has none. -/
theorem haltedCoreMakesNoStep : Obligations.HaltedCoreMakesNoStep := by
  intro s rest h
  refine ⟨fun c hc => ?_, rfl⟩
  have hne : c ≠ .getRegisters := fun heq => absurd (heq ▸ hc) (by decide)
  exact (step_call c rest s).trans (performCall_halted (s := { s with calls := rest }) h exec hne)

/-- The Fatal record, PC, P, the registers, memory and `pc_valid` are as in `s`. -/
def SameCore (s t : State) : Prop :=
  t.halted = s.halted ∧ t.pc = s.pc ∧ t.p = s.p ∧ SameRegisters s t ∧ t.mem = s.mem ∧ t.pcValid = s.pcValid

/-- A call on a halted core answers a next state with the core as it was and the calls as they were left. -/
theorem performCall_sameCore {s : State} (c : Call) (h : s.halted ≠ none) :
    ∃ t, performCall exec c s = .next t ∧ SameCore s t ∧ t.calls = s.calls := by
  by_cases hc : c = .getRegisters
  case pos =>
    subst hc
    exact ⟨_, rfl, ⟨rfl, rfl, rfl, ⟨rfl, rfl, rfl, rfl⟩, rfl, rfl⟩, rfl⟩
  case neg => exact ⟨_, performCall_halted h exec hc, ⟨rfl, rfl, rfl, ⟨rfl, rfl, rfl, rfl⟩, rfl, rfl⟩, rfl⟩

theorem sameCore_trans {s t u : State} (hst : SameCore s t) (htu : SameCore t u) : SameCore s u := by
  obtain ⟨hhalted, hpc, hp, hregisters, hmem, hpcValid⟩ := hst
  obtain ⟨hhalted', hpc', hp', hregisters', hmem', hpcValid'⟩ := htu
  exact ⟨hhalted'.trans hhalted, hpc'.trans hpc, hp'.trans hp, sameRegisters_trans hregisters hregisters',
    hmem'.trans hmem, hpcValid'.trans hpcValid⟩

/-- Settles O59: every step of a halted core leaves the core as it is, so every run does. -/
theorem fatalEndsEveryRun : Obligations.FatalEndsEveryRun := by
  intro n s h
  refine run_answers core (SameCore s) (fun u hu => ?step) n s ⟨rfl, rfl, rfl, ⟨rfl, rfl, rfl, rfl⟩, rfl, rfl⟩
  obtain ⟨c, rest, hstep⟩ := step_eq u
  have hhalted : u.halted ≠ none := fun hnone => h (hu.1 ▸ hnone)
  obtain ⟨t, ht, hsame, _⟩ := performCall_sameCore (s := { u with calls := rest }) c hhalted
  exact ⟨t, hstep.trans ht, sameCore_trans hu hsame⟩

/-! ### `reset()` -/

/-- What `reset()` makes of a core that is not halted (R241). -/
structure AfterReset (s t : State) : Prop where
  returned : t.returned = .cycles 7
  pcValid : t.pcValid = true
  reads : ∃ l h, t.accesses = [.read 0xFFFC l, .read 0xFFFD h] ∧ t.pc.toNat = l.toNat + 256 * h.toNat
  ram : s.script = [] → t.pc.toNat = ramWord s.mem 0xFFFC 0xFFFD
  sp : t.sp = s.sp - 3
  p : t.p = setI true s.p
  others : t.a = s.a ∧ t.x = s.x ∧ t.y = s.y ∧ t.mem = s.mem ∧ t.halted = s.halted ∧ t.calls = s.calls
  script : s.script = [] → t.script = []

theorem resetCall_afterReset {s : State} (h : s.halted = none) : ∃ t, resetCall s = .next t ∧ AfterReset s t := by
  obtain ⟨l, h', hpc, haccesses⟩ := busReadWord_reads Config.resetVector
    { beginCall s with sp := s.sp - 3, p := setI true s.p }
  have hram := busReadWord_toNat Config.resetVector (s := { beginCall s with sp := s.sp - 3, p := setI true s.p })
  exact ⟨_, resetCall_running h, rfl, rfl, ⟨l, h', haccesses, hpc⟩, hram, rfl, rfl, ⟨rfl, rfl, rfl, rfl, rfl, rfl⟩,
    fun hscript => (busReadWord_script _ _).trans (congrArg (fun l => l.tail.tail) hscript)⟩

/-- Settles O40: a step for `reset()` is that call. -/
theorem resetSetsPcSpAndInterruptDisable : Obligations.ResetSetsPcSpAndInterruptDisable := by
  intro s rest h
  obtain ⟨t, ht, hreset⟩ := resetCall_afterReset (s := { s with calls := rest }) h
  obtain ⟨ha, hx, hy, hmem, hhalted, hcalls⟩ := hreset.others
  exact ⟨t, (step_call .reset rest s).trans ht, hreset.returned, hreset.pcValid, hreset.reads, hreset.ram, hreset.sp,
    by rw [hreset.p, flagI_setI], sameFlagsBut_setI hreset.p, ha, hx, hy, hmem, hhalted.trans h, hcalls⟩

/-- Settles O41: two calls of `reset()`, from the constructed core and from the state after the first. -/
theorem firstResetFromConstruction : Obligations.FirstResetFromConstruction := by
  intro a x y mem
  obtain ⟨t, ht, hreset⟩ := resetCall_afterReset (s := State.construct a x y mem [] []) rfl
  obtain ⟨ha, hx, hy, hmem, hhalted, _⟩ := hreset.others
  obtain ⟨u, hu, hreset'⟩ := resetCall_afterReset hhalted
  have hpc : u.pc = t.pc := BitVec.eq_of_toNat_eq (by
    rw [hreset'.ram (hreset.script rfl), hreset.ram rfl, hmem])
  have hp : t.p = 0x24 := hreset.p.trans (show setI true 0x24 = (0x24 : Byte) by decide)
  have hsp : t.sp = 0xFA := hreset.sp.trans (show (0xFD : Byte) - 3 = 0xFA by decide)
  exact ⟨t, u, ht, hreset.ram rfl, hsp, hp, ha, hx, hy, hmem, hreset.pcValid, hhalted, hreset.returned, hu,
    hreset'.sp.trans (by rw [hsp]; decide), hpc, hreset'.p.trans (by rw [hp]; decide)⟩

/-- A call refused before the first reset leaves the core NotReset, with only the call consumed. -/
theorem step_notReset {s : State} {c : Call} (rest : List Call) (h : s.halted = none) (hpc : s.pcValid = false)
    (hc : c ∈ [Call.tick, Call.nmi, Call.irq]) :
    step { s with calls := c :: rest } = .next { s with calls := rest, accesses := [], returned := .notReset } :=
  (step_call c rest s).trans (performCall_notReset (s := { s with calls := rest }) h hpc exec hc)

/-- `reset()` does not look at the outputs of the last call. -/
theorem step_reset_outputs (s : State) (rest : List Call) (accesses : List BusAccess) (returned : CallResult) :
    step { s with calls := .reset :: rest, accesses := accesses, returned := returned } =
      step { s with calls := .reset :: rest } := by
  rfl

/-- A run over refused calls and a `reset()` ends as the `reset()` alone. -/
theorem run_refused_reset (rest refused : List Call) (hrefused : ∀ c ∈ refused, c ∈ [Call.tick, Call.nmi, Call.irq])
    (s : State) (h : s.halted = none) (hpc : s.pcValid = false) :
    Host.Core.run core (refused.length + 1) { s with calls := refused ++ .reset :: rest } =
      step { s with calls := .reset :: rest } := by
  induction refused generalizing s with
  | nil =>
    obtain ⟨t, ht, _⟩ := resetSetsPcSpAndInterruptDisable s rest h
    exact (run_succ core (s := ({ s with calls := .reset :: rest } : State)) (t := t) ht 0).trans ht.symm
  | cons c refused ih =>
    have hstep := step_notReset (refused ++ .reset :: rest) h hpc (hrefused c (List.mem_cons_self ..))
    have hrest := ih (fun d hd => hrefused d (List.mem_cons_of_mem c hd)) { s with accesses := [], returned := .notReset } h hpc
    exact (run_succ core hstep _).trans (hrest.trans (step_reset_outputs s rest _ _))

/-- Settles O42: each refused call is `notReset`, and a `reset()` after any list of them is the `reset()` without them. -/
theorem callsBeforeResetAreRefused : Obligations.CallsBeforeResetAreRefused := by
  intro s rest h hpc
  refine ⟨fun c hc => step_notReset rest h hpc hc, ?idle, fun refused hrefused => run_refused_reset rest refused hrefused s h hpc,
    ?reset⟩
  case idle =>
    exact (step_idle s).trans
      (performCall_notReset (s := { s with calls := [] }) (c := .tick) h hpc exec (List.mem_cons_self ..))
  case reset =>
    obtain ⟨t, ht, _, hpcValid, _, _, _, _, _, _, _, _, _, hhalted, _⟩ := resetSetsPcSpAndInterruptDisable s rest h
    exact ⟨t, ht, hpcValid, hhalted⟩

/-- Settles O43: `get_registers()` is its definition in every state. -/
theorem getRegistersIsReadOnly : Obligations.GetRegistersIsReadOnly := fun s rest => step_call .getRegisters rest s

/-! ### The controller's diagram, and every driver -/

/-- What R219's diagram says of a call `c` that leads from `s` to `t`. -/
def AlongDiagram (c : Call) (s t : State) : Prop :=
  (Safety.NotReset s → if c = .reset then Safety.Running t else Safety.NotReset t) ∧
  (Safety.Running s → t.pcValid = true ∧ (t.halted ≠ none ↔ c = .tick ∧ (descriptor (busRead s.pc s).1).slot = .trap)) ∧
  (s.halted ≠ none → t.halted = s.halted)

/-- A call on a running core that leaves `halted` and `pc_valid` alone is along the diagram if it is no `tick()` at a trap
opcode. -/
theorem alongDiagram_running {c : Call} {s t : State} (hs : Safety.Running s) (hhalted : t.halted = s.halted)
    (hpcValid : t.pcValid = s.pcValid) (hc : ¬(c = .tick ∧ (descriptor (busRead s.pc s).1).slot = .trap)) :
    AlongDiagram c s t := by
  obtain ⟨hpc, hrun⟩ := hs
  exact ⟨fun hnot => absurd (hnot.1.symm.trans hpc) (by decide),
    fun _ => ⟨hpcValid.trans hpc, fun h => absurd (hhalted.trans hrun) h, fun h => absurd h hc⟩, fun _ => hhalted⟩

/-- `tick()` on a running core halts it exactly at a trap opcode. -/
theorem tick_alongDiagram {s : State} (hs : Safety.Running s) :
    ∃ t, tickWith exec s = .next t ∧ t.calls = s.calls ∧ AlongDiagram .tick s t := by
  obtain ⟨hpc, hrun⟩ := hs
  obtain ⟨_, _, _, _, _, _, _, hhalted, hpcValid, hcalls⟩ := fetch_frame (beginCall s)
  have hopcode : (fetch (beginCall s)).1.opcode = (busRead s.pc s).1 := opcode_fetch (beginCall s)
  rw [tick_running hrun hpc]
  by_cases hslot : (descriptor (fetch (beginCall s)).1.opcode).slot = .trap
  case pos =>
    refine ⟨_, exec_trap hslot _, hcalls, fun hnot => absurd (hnot.1.symm.trans hpc) (by decide),
      fun _ => ⟨hpcValid.trans hpc, fun _ => ⟨rfl, hopcode ▸ hslot⟩, fun _ => ?_⟩, fun h => absurd hrun h⟩
    rw [raiseFatal_halted]
    exact Option.some_ne_none _
  case neg =>
    obtain ⟨t, ht, hwithin, _⟩ := exec_fulfils hslot (fetch (beginCall s)).2
    obtain ⟨hhalted', hpcValid', hcalls'⟩ := hwithin.control
    exact ⟨t, ht, hcalls'.trans hcalls, alongDiagram_running ⟨hpc, hrun⟩ (hhalted'.trans hhalted)
      (hpcValid'.trans hpcValid) fun h => hslot (hopcode ▸ h.2)⟩

/-- From NotReset a `reset()` leads to Running, and every other call stays. -/
theorem performCall_alongDiagram_notReset (c : Call) {s : State} (hs : Safety.NotReset s) :
    ∃ t, performCall exec c s = .next t ∧ t.calls = s.calls ∧ AlongDiagram c s t := by
  have ⟨hpc, hrun⟩ := hs
  have hnot : ¬Safety.Running s := fun h => absurd (hpc.symm.trans h.1) (by decide)
  cases c with
  | reset =>
    obtain ⟨t, ht, hreset⟩ := resetCall_afterReset hrun
    obtain ⟨_, _, _, _, hhalted, hcalls⟩ := hreset.others
    exact ⟨t, ht, hcalls, fun _ => ⟨hreset.pcValid, hhalted.trans hrun⟩, fun h => absurd h hnot, fun _ => hhalted⟩
  | getRegisters => exact ⟨_, rfl, rfl, fun _ => hs, fun h => absurd h hnot, fun _ => rfl⟩
  | tick | nmi | irq =>
    exact ⟨_, performCall_notReset hrun hpc exec (by decide), rfl, fun _ => hs, fun h => absurd h hnot, fun _ => rfl⟩

/-- From Running a trap opcode leads to Halted, and nothing else does. -/
theorem performCall_alongDiagram_running (c : Call) {s : State} (hs : Safety.Running s) :
    ∃ t, performCall exec c s = .next t ∧ t.calls = s.calls ∧ AlongDiagram c s t := by
  have ⟨hpc, hrun⟩ := hs
  cases c with
  | tick => exact tick_alongDiagram hs
  | nmi => exact ⟨_, nmi_running hrun hpc, rfl, alongDiagram_running hs rfl rfl fun h => nomatch h.1⟩
  | irq =>
    cases hi : flagI s.p with
    | false => exact ⟨_, irq_taken hrun hpc hi, rfl, alongDiagram_running hs rfl rfl fun h => nomatch h.1⟩
    | true => exact ⟨_, irq_masked hrun hpc hi, rfl, alongDiagram_running hs rfl rfl fun h => nomatch h.1⟩
  | reset =>
    obtain ⟨t, ht, hreset⟩ := resetCall_afterReset hrun
    obtain ⟨_, _, _, _, hhalted, hcalls⟩ := hreset.others
    exact ⟨t, ht, hcalls, alongDiagram_running hs hhalted (hreset.pcValid.trans hpc.symm) fun h => nomatch h.1⟩
  | getRegisters => exact ⟨_, rfl, rfl, alongDiagram_running hs rfl rfl fun h => nomatch h.1⟩

/-- Every call answers a next state along the diagram, with the driver's later calls as they were. -/
theorem performCall_alongDiagram (c : Call) (s : State) :
    ∃ t, performCall exec c s = .next t ∧ t.calls = s.calls ∧ AlongDiagram c s t := by
  by_cases hhalted : s.halted = none
  case neg =>
    obtain ⟨t, ht, hsame, hcalls⟩ := performCall_sameCore c hhalted
    exact ⟨t, ht, hcalls, fun h => absurd h.2 hhalted, fun h => absurd h.2 hhalted, fun _ => hsame.1⟩
  case pos =>
    cases hpc : s.pcValid with
    | false => exact performCall_alongDiagram_notReset c ⟨hpc, hhalted⟩
    | true => exact performCall_alongDiagram_running c ⟨hpc, hhalted⟩

/-- Settles O60: a step for a call is that call, and a step answers a next state whatever was asked for. -/
theorem everyCallMovesTheControllerAlongItsDiagram : Obligations.EveryCallMovesTheControllerAlongItsDiagram := by
  refine ⟨fun s c rest => ?call, fun n s => ?run⟩
  case call => exact performCall_alongDiagram c { s with calls := rest }
  case run =>
    have hnext : ∀ u : State, True → ∃ t : State, step u = .next t ∧ True := fun u _ => by
      obtain ⟨c, rest, hstep⟩ := step_eq u
      obtain ⟨t, ht, _⟩ := performCall_alongDiagram c { u with calls := rest }
      exact ⟨t, hstep.trans ht, trivial⟩
    obtain ⟨t, ht, _⟩ := run_answers core (fun _ => True) hnext n s trivial
    exact ⟨t, ht⟩

/-! ### The interrupt mask -/

/-- On a running core the next `irq()` is decided by I as it stands (70_reset_and_hazards.md R250, D13). -/
theorem irq_by_mask {t : State} (hrun : t.halted = none) (hpc : t.pcValid = true) :
    (flagI t.p = false → ∃ u, irq t = .next u ∧ u.returned = .cycles 7 ∧ u.sp = t.sp - 3) ∧
      (flagI t.p = true → irq t = .next { t with accesses := [], returned := .cycles 0 }) :=
  ⟨fun hi => ⟨_, irq_taken hrun hpc hi, rfl, sp_sub_one_sub_one_sub_one t.sp⟩, fun hi => irq_masked hrun hpc hi⟩

/-- Settles O39: an instruction leaves the core running, and I is then what it left. -/
theorem interruptMaskActsAtOnce : Obligations.InterruptMaskActsAtOnce := by
  intro s hrun hpc
  refine ⟨⟨_, rfl, ?cli⟩, ⟨_, rfl, ?sei⟩, ⟨_, exec_brk s, ?brk⟩, fun i hslot => ?any⟩
  case cli => exact (irq_by_mask (t := retire 0x58 false (clearInterruptDisable s)) hrun hpc).1 (flagI_setI false s.p)
  case sei => exact (irq_by_mask (t := retire 0x78 false (setInterruptDisable s)) hrun hpc).2 (flagI_setI true s.p)
  case brk => exact irq_masked hrun hpc (flagI_setI true s.p)
  case any =>
    obtain ⟨t, ht, hwithin, _⟩ := exec_fulfils hslot s
    obtain ⟨hhalted, hpcValid, _⟩ := hwithin.control
    exact ⟨t, ht, irq_by_mask (hhalted.trans hrun) (hpcValid.trans hpc)⟩

end Sys2Proof.Proofs
end

section
/-! Proofs about the instructions that compute from an operand byte: the loads (41_load_store_transfer.md R100 to R102),
arithmetic, logic and compares (42_arithmetic_logic.md R120 to R129), and the undocumented operations (46_illegal.md R191 to
R201). Before them: the Immediate form and the read-modify-write composites as wholes. -/

namespace Sys2Proof.Proofs

open Sys2Proof Sys2Proof.Machine Sys2Proof.Spec

/-! ### What an operation on a byte owes its forms -/

/-- An effect on registers and P alone that brings `post` about, from whatever state with the same registers and P. -/
structure Operates (effect : Byte → State → State) (post : Byte → State → State → Prop) : Prop where
  surroundings : ∀ v u, SameSurroundings u (effect v u)
  meets : ∀ v s u t, SameRegisterFile s u → SameRegisterFile (effect v u) t → post v s t

theorem Operates.reads {effect : Byte → State → State} {post : Byte → State → State → Prop}
    {rows : MemOperand → List FormRow} (h : Operates effect post) (hrows : ∀ m, ∀ row ∈ rows m, ReadRow effect m row) :
    ReadsThen rows post := readsThen_of_readRow hrows h.surroundings h.meets

/-- The row's instruction has `effect` on the byte it holds. -/
structure ImmediateRow (effect : Byte → State → State) (v : Byte) (row : FormRow) : Prop where
  agrees : RowAgrees row
  exec_eq : ∀ s, exec row.instr s = immediateClass row.opcode v effect s

/-- A row of the Immediate form makes no access (log 10) and meets what its operation brings about. -/
theorem Operates.runs_immediate {effect : Byte → State → State} {post : Byte → State → State → Prop} {v : Byte}
    {row : FormRow} (h : Operates effect post) (hrow : ImmediateRow effect v row) (s : State) :
    Runs row false s fun t => post v s t ∧ SameMemory s t ∧ SameBus s t := by
  obtain ⟨hpc, hcontrol, hmemory, hbus⟩ := h.surroundings v s
  exact runs_of_retire hrow.agrees (hrow.exec_eq s) hpc hcontrol
    ⟨h.meets v s s _ ⟨⟨rfl, rfl, rfl, rfl⟩, rfl⟩ ⟨⟨rfl, rfl, rfl, rfl⟩, rfl⟩, hmemory, hbus⟩

theorem Operates.immediate {effect : Byte → State → State} {post : Byte → State → State → Prop} {row : Byte → FormRow}
    (h : Operates effect post) (hrow : ∀ v, ImmediateRow effect v (row v)) : ImmediateThen row post :=
  fun s v => h.runs_immediate (hrow v) s

/-! ### Loads and logic: a register takes a byte, Z and N are its -/

/-- A byte made of the operand, the registers and P. -/
def OfRegisterFile (f : Byte → State → Byte) : Prop := ∀ v s u, SameRegisterFile s u → f v u = f v s

/-- A takes the byte `f` of the operand, the registers and P. -/
theorem operates_loadA {f : Byte → State → Byte} (hf : OfRegisterFile f) : Operates (fun v u => loadA (f v u) u)
    fun v s t => SetsZN (f v s) (t.a = f v s ∧ t.x = s.x ∧ t.y = s.y ∧ t.sp = s.sp) s t := by
  refine ⟨fun v u => ⟨rfl, ⟨rfl, rfl, rfl⟩, fun _ => rfl, rfl, rfl⟩, fun v s u t hu ht => ?_⟩
  obtain ⟨_, hx, hy, hsp⟩ := hu.registers
  obtain ⟨ha', hx', hy', hsp'⟩ := ht.registers
  rw [← hf v s u hu]
  exact setsZN_of_setZN (ht.p.trans (congrArg (setZN _) hu.p)) ⟨ha', hx'.trans hx, hy'.trans hy, hsp'.trans hsp⟩

/-- X takes the operand. -/
theorem operates_loadX : Operates loadX
    fun v s t => SetsZN v (t.x = v ∧ t.a = s.a ∧ t.y = s.y ∧ t.sp = s.sp) s t := by
  refine ⟨fun v u => ⟨rfl, ⟨rfl, rfl, rfl⟩, fun _ => rfl, rfl, rfl⟩, fun v s u t hu ht => ?_⟩
  obtain ⟨ha, _, hy, hsp⟩ := hu.registers
  obtain ⟨ha', hx', hy', hsp'⟩ := ht.registers
  exact setsZN_of_setZN (ht.p.trans (congrArg (setZN v) hu.p)) ⟨hx', ha'.trans ha, hy'.trans hy, hsp'.trans hsp⟩

/-- Y takes the operand. -/
theorem operates_loadY : Operates loadY
    fun v s t => SetsZN v (t.y = v ∧ t.a = s.a ∧ t.x = s.x ∧ t.sp = s.sp) s t := by
  refine ⟨fun v u => ⟨rfl, ⟨rfl, rfl, rfl⟩, fun _ => rfl, rfl, rfl⟩, fun v s u t hu ht => ?_⟩
  obtain ⟨ha, hx, _, hsp⟩ := hu.registers
  obtain ⟨ha', hx', hy', hsp'⟩ := ht.registers
  exact setsZN_of_setZN (ht.p.trans (congrArg (setZN v) hu.p)) ⟨hy', ha'.trans ha, hx'.trans hx, hsp'.trans hsp⟩

/-- A and X take the operand (46_illegal.md R192). -/
theorem operates_loadAX : Operates loadAX
    fun v s t => SetsZN v (t.a = v ∧ t.x = v ∧ t.y = s.y ∧ t.sp = s.sp) s t := by
  refine ⟨fun v u => ⟨rfl, ⟨rfl, rfl, rfl⟩, fun _ => rfl, rfl, rfl⟩, fun v s u t hu ht => ?_⟩
  obtain ⟨_, _, hy, hsp⟩ := hu.registers
  obtain ⟨ha', hx', hy', hsp'⟩ := ht.registers
  exact setsZN_of_setZN (ht.p.trans (congrArg (setZN v) hu.p)) ⟨ha', hx', hy'.trans hy, hsp'.trans hsp⟩

theorem ldaRows_read : ∀ m, ∀ row ∈ ldaRows m, ReadRow loadA m row
  | .indirectX _ | .zeroPage _ | .absolute _ | .indirectY _ | .zeroPageX _ | .absoluteY _ | .absoluteX _ =>
    List.forall_mem_singleton.mpr ⟨.of rfl rfl rfl rfl rfl, fun _ => rfl⟩
  | .zeroPageY _ => List.forall_mem_nil _

theorem ldxRows_read : ∀ m, ∀ row ∈ ldxRows m, ReadRow loadX m row
  | .zeroPage _ | .absolute _ | .zeroPageY _ | .absoluteY _ =>
    List.forall_mem_singleton.mpr ⟨.of rfl rfl rfl rfl rfl, fun _ => rfl⟩
  | .zeroPageX _ | .absoluteX _ | .indirectX _ | .indirectY _ => List.forall_mem_nil _

theorem ldyRows_read : ∀ m, ∀ row ∈ ldyRows m, ReadRow loadY m row
  | .zeroPage _ | .absolute _ | .zeroPageX _ | .absoluteX _ =>
    List.forall_mem_singleton.mpr ⟨.of rfl rfl rfl rfl rfl, fun _ => rfl⟩
  | .zeroPageY _ | .absoluteY _ | .indirectX _ | .indirectY _ => List.forall_mem_nil _

/-- Settles O1: each load is the operation that puts the operand into its register. -/
theorem loadsPutTheByteInTheRegister : Obligations.LoadsPutTheByteInTheRegister := by
  have hlda := operates_loadA (f := fun v _ => v) fun _ _ _ _ => rfl
  exact ⟨hlda.reads ldaRows_read, hlda.immediate fun _ => ⟨.of rfl rfl rfl rfl rfl, fun _ => rfl⟩,
    operates_loadX.reads ldxRows_read, operates_loadX.immediate fun _ => ⟨.of rfl rfl rfl rfl rfl, fun _ => rfl⟩,
    operates_loadY.reads ldyRows_read, operates_loadY.immediate fun _ => ⟨.of rfl rfl rfl rfl rfl, fun _ => rfl⟩⟩

theorem andRows_read : ∀ m, ∀ row ∈ andRows m, ReadRow andA m row
  | .indirectX _ | .zeroPage _ | .absolute _ | .indirectY _ | .zeroPageX _ | .absoluteY _ | .absoluteX _ =>
    List.forall_mem_singleton.mpr ⟨.of rfl rfl rfl rfl rfl, fun _ => rfl⟩
  | .zeroPageY _ => List.forall_mem_nil _

theorem oraRows_read : ∀ m, ∀ row ∈ oraRows m, ReadRow oraA m row
  | .indirectX _ | .zeroPage _ | .absolute _ | .indirectY _ | .zeroPageX _ | .absoluteY _ | .absoluteX _ =>
    List.forall_mem_singleton.mpr ⟨.of rfl rfl rfl rfl rfl, fun _ => rfl⟩
  | .zeroPageY _ => List.forall_mem_nil _

theorem eorRows_read : ∀ m, ∀ row ∈ eorRows m, ReadRow eorA m row
  | .indirectX _ | .zeroPage _ | .absolute _ | .indirectY _ | .zeroPageX _ | .absoluteY _ | .absoluteX _ =>
    List.forall_mem_singleton.mpr ⟨.of rfl rfl rfl rfl rfl, fun _ => rfl⟩
  | .zeroPageY _ => List.forall_mem_nil _

/-- A byte made of A and the operand is made of registers. -/
theorem ofRegisterFile_a (f : Byte → Byte → Byte) : OfRegisterFile fun v s => f s.a v := fun v _ _ hu => by
  obtain ⟨ha, _⟩ := hu.registers
  exact congrArg (f · v) ha

/-- Settles O7: each is the load of A with A combined with the operand. -/
theorem logicalInstructionsCombineWithA : Obligations.LogicalInstructionsCombineWithA := by
  have hand := operates_loadA (ofRegisterFile_a (· &&& ·))
  have hora := operates_loadA (ofRegisterFile_a (· ||| ·))
  have heor := operates_loadA (ofRegisterFile_a (· ^^^ ·))
  exact ⟨hand.reads andRows_read, hand.immediate fun _ => ⟨.of rfl rfl rfl rfl rfl, fun _ => rfl⟩,
    hora.reads oraRows_read, hora.immediate fun _ => ⟨.of rfl rfl rfl rfl rfl, fun _ => rfl⟩,
    heor.reads eorRows_read, heor.immediate fun _ => ⟨.of rfl rfl rfl rfl rfl, fun _ => rfl⟩⟩

/-! ### The adder -/

/-- A byte's bit 7 is what its mask with 0x80 tests. -/
theorem and_0x80_ne_zero : ∀ x : Byte, (x &&& 0x80 != 0) = x.msb := by decide

/-- The adder's V: the result's sign is neither operand's (R120). -/
theorem addWithCarry_overflow (a b : Byte) (c : Bool) : (addWithCarry a b c).overflow =
    ((addWithCarry a b c).result.msb != a.msb && (addWithCarry a b c).result.msb != b.msb) := by
  have hmask := and_0x80_ne_zero (((addWithCarry a b c).result ^^^ a) &&& ((addWithCarry a b c).result ^^^ b))
  rw [BitVec.msb_and, BitVec.msb_xor, BitVec.msb_xor] at hmask
  rw [Bool.bne_eq_xor]
  exact hmask

/-- Settles O12: the signs are bits 7, and the result is the exact sum modulo 256. -/
theorem adderOverflowIsSignedOverflow : Obligations.AdderOverflowIsSignedOverflow := by
  intro a b c
  have hresult := addWithCarry_result a b c
  have ha := a.isLt
  have hb := b.isLt
  have hc : c.toNat ≤ 1 := Bool.toNat_le c
  rw [addWithCarry_overflow, BitVec.msb_eq_decide, BitVec.msb_eq_decide, BitVec.msb_eq_decide, hresult,
    BitVec.toInt_eq_toNat_cond, BitVec.toInt_eq_toNat_cond]
  simp only [Bool.and_eq_true, bne_iff_ne, ne_eq, decide_eq_decide]
  omega

/-- Settles O13: the two exact sums add up to A and 256. -/
theorem sbcWithNegatedCarryUndoesAdc : Obligations.SbcWithNegatedCarryUndoesAdc := by
  intro s v
  refine ⟨_, _, rfl, rfl, BitVec.eq_of_toNat_eq ?_⟩
  change (addWithCarry (addWithCarry s.a v (flagC s.p)).result (~~~v) (flagC (setC (!flagC s.p) _))).result.toNat = _
  have ha := s.a.isLt
  have hv := v.isLt
  rw [flagC_setC, addWithCarry_result, addWithCarry_result, BitVec.toNat_not]
  cases flagC s.p <;> simp only [Bool.not_false, Bool.not_true, Bool.toNat_false, Bool.toNat_true] <;> omega

/-- Where A and P are the adder's of the old A, and P besides differs in C, V, Z and N at most, `AddsToA` holds. -/
theorem addsToA_of_setAdder {b : Byte} {c : Bool} {s t : State} {q : Byte} (ha : t.a = (addWithCarry s.a b c).result)
    (hp : t.p = setAdder (addWithCarry s.a b c) q)
    (hq : ∀ k, k ∉ [0, 1, 6, 7] → q.getLsbD k = s.p.getLsbD k) (hothers : t.x = s.x ∧ t.y = s.y ∧ t.sp = s.sp) :
    AddsToA b c s t := by
  refine ⟨?sum, ?carry, ?overflow, ?zeroNegative, fun k _ hk => ?flags, hothers⟩
  case sum => rw [ha, addWithCarry_result]
  case carry => rw [hp, flagC_setAdder, addWithCarry, decide_eq_true_iff]
  case overflow => rw [hp, flagV_setAdder, ha, addWithCarry, bne_iff_ne]
  case zeroNegative =>
    rw [ha]
    exact zeroNegativeOf_setZN hp
  case flags =>
    have hk' := hk
    simp only [List.mem_cons, List.not_mem_nil, or_false, not_or] at hk'
    obtain ⟨hc, hz, hv, hn⟩ := hk'
    rw [hp, setAdder_getLsbD, if_neg hn, if_neg hz, if_neg hv, if_neg hc, hq k hk]

/-- ADC's effect, from a state whose registers are those of `s` and whose P is `q`. -/
theorem addsToA_of_adcA {v q : Byte} {s u t : State} (hu : SameRegisters s u) (hp : u.p = q)
    (hq : ∀ k, k ∉ [0, 1, 6, 7] → q.getLsbD k = s.p.getLsbD k) (ht : SameRegisterFile (adcA v u) t) :
    AddsToA v (flagC q) s t := by
  obtain ⟨ha, hx, hy, hsp⟩ := hu
  obtain ⟨ha', hx', hy', hsp'⟩ := ht.registers
  have hsum : addWithCarry u.a v (flagC u.p) = addWithCarry s.a v (flagC q) := by rw [ha, hp]
  exact addsToA_of_setAdder (ha'.trans (congrArg Sum.result hsum))
    (ht.p.trans (congrArg₂ setAdder hsum hp)) hq ⟨hx'.trans hx, hy'.trans hy, hsp'.trans hsp⟩

theorem operates_adcA : Operates adcA fun v s t => AddsToA v (flagC s.p) s t :=
  ⟨fun _ _ => ⟨rfl, ⟨rfl, rfl, rfl⟩, fun _ => rfl, rfl, rfl⟩,
    fun _ _ _ _ hu ht => addsToA_of_adcA hu.registers hu.p (fun _ _ => rfl) ht⟩

theorem adcRows_read : ∀ m, ∀ row ∈ adcRows m, ReadRow adcA m row
  | .indirectX _ | .zeroPage _ | .absolute _ | .indirectY _ | .zeroPageX _ | .absoluteY _ | .absoluteX _ =>
    List.forall_mem_singleton.mpr ⟨.of rfl rfl rfl rfl rfl, fun _ => rfl⟩
  | .zeroPageY _ => List.forall_mem_nil _

/-- Settles O5: ADC is the operation of the adder. -/
theorem adcAddsByteAndCarry : Obligations.AdcAddsByteAndCarry :=
  ⟨operates_adcA.reads adcRows_read, operates_adcA.immediate fun _ => ⟨.of rfl rfl rfl rfl rfl, fun _ => rfl⟩⟩

/-- Adding the complement and C subtracts the byte and the borrow, and C is the absence of a borrow (R123). -/
theorem subtracts_of_addsToA {v : Byte} {c : Bool} {s t : State} (h : AddsToA (~~~v) c s t) :
    (t.a.toNat : Int) = ((s.a.toNat : Int) - v.toNat - (1 - c.toNat)) % 256 ∧
      (flagC t.p = true ↔ v.toNat + (1 - c.toNat) ≤ s.a.toNat) := by
  obtain ⟨hsum, hcarry, _⟩ := h
  have ha := s.a.isLt
  have hv := v.isLt
  rw [hcarry, hsum, BitVec.toNat_not]
  cases c <;> simp only [Bool.toNat_false, Bool.toNat_true] <;> omega

theorem operates_sbcA : Operates sbcA fun v s t => AddsToA (~~~v) (flagC s.p) s t ∧
    (t.a.toNat : Int) = ((s.a.toNat : Int) - v.toNat - (1 - (flagC s.p).toNat)) % 256 ∧
    (flagC t.p = true ↔ v.toNat + (1 - (flagC s.p).toNat) ≤ s.a.toNat) :=
  ⟨fun v => operates_adcA.surroundings (~~~v), fun v s u t hu ht =>
    have hadds := operates_adcA.meets (~~~v) s u t hu ht
    ⟨hadds, subtracts_of_addsToA hadds⟩⟩

theorem sbcRows_read : ∀ m, ∀ row ∈ sbcRows m, ReadRow sbcA m row
  | .indirectX _ | .zeroPage _ | .absolute _ | .indirectY _ | .zeroPageX _ | .absoluteY _ | .absoluteX _ =>
    List.forall_mem_singleton.mpr ⟨.of rfl rfl rfl rfl rfl, fun _ => rfl⟩
  | .zeroPageY _ => List.forall_mem_nil _

/-- Settles O6: SBC is ADC of the complement. -/
theorem sbcSubtractsByteAndBorrow : Obligations.SbcSubtractsByteAndBorrow :=
  ⟨operates_sbcA.reads sbcRows_read, operates_sbcA.immediate fun _ => ⟨.of rfl rfl rfl rfl rfl, fun _ => rfl⟩,
    operates_sbcA.immediate fun _ => ⟨.of rfl rfl rfl rfl rfl, fun _ => rfl⟩⟩

/-! ### The comparator -/

/-- Where P is the comparator's and no register changed, `Compared` holds, if P besides differs in C, Z and N at most. -/
theorem compared_of_setCompare {reg v q : Byte} {s t : State} (hp : t.p = setCompare reg v q)
    (hq : ∀ k, k ∉ [0, 1, 7] → q.getLsbD k = s.p.getLsbD k) (hregisters : SameRegisters s t) : Compared reg v s t := by
  refine ⟨?carry, ?zero, ?negative, fun k _ hk => ?flags, hregisters⟩
  case carry => rw [hp, flagC_setCompare, decide_eq_true_iff]
  case zero => rw [hp, flagZ_setCompare, beq_iff_eq]
  case negative => rw [hp, flagN_setCompare]
  case flags =>
    have hk' := hk
    simp only [List.mem_cons, List.not_mem_nil, or_false, not_or] at hk'
    obtain ⟨hc, hz, hn⟩ := hk'
    rw [hp, setCompare_getLsbD, if_neg hn, if_neg hz, if_neg hc, hq k hk]

/-- The effect of comparing the register `reg` with the operand. -/
def compareWith (reg : State → Byte) (v : Byte) (s : State) : State := { s with p := setCompare (reg s) v s.p }

theorem operates_compareWith {reg : State → Byte} (hreg : ∀ s u, SameRegisters s u → reg u = reg s) :
    Operates (compareWith reg) fun v s t => Compared (reg s) v s t := by
  refine ⟨fun v u => ⟨rfl, ⟨rfl, rfl, rfl⟩, fun _ => rfl, rfl, rfl⟩, fun v s u t hu ht => ?_⟩
  have hp : t.p = setCompare (reg s) v s.p := by rw [ht.p, compareWith, hreg s u hu.registers, hu.p]
  exact compared_of_setCompare hp (fun _ _ => rfl) (sameRegisters_trans hu.registers ht.registers)

theorem cmpRows_read : ∀ m, ∀ row ∈ cmpRows m, ReadRow (compareWith State.a) m row
  | .indirectX _ | .zeroPage _ | .absolute _ | .indirectY _ | .zeroPageX _ | .absoluteY _ | .absoluteX _ =>
    List.forall_mem_singleton.mpr ⟨.of rfl rfl rfl rfl rfl, fun _ => rfl⟩
  | .zeroPageY _ => List.forall_mem_nil _

theorem cpxRows_read : ∀ m, ∀ row ∈ cpxRows m, ReadRow (compareWith State.x) m row
  | .zeroPage _ | .absolute _ => List.forall_mem_singleton.mpr ⟨.of rfl rfl rfl rfl rfl, fun _ => rfl⟩
  | .zeroPageX _ | .zeroPageY _ | .absoluteX _ | .absoluteY _ | .indirectX _ | .indirectY _ => List.forall_mem_nil _

theorem cpyRows_read : ∀ m, ∀ row ∈ cpyRows m, ReadRow (compareWith State.y) m row
  | .zeroPage _ | .absolute _ => List.forall_mem_singleton.mpr ⟨.of rfl rfl rfl rfl rfl, fun _ => rfl⟩
  | .zeroPageX _ | .zeroPageY _ | .absoluteX _ | .absoluteY _ | .indirectX _ | .indirectY _ => List.forall_mem_nil _

/-- Settles O8: each compare is the comparator's operation on its register. -/
theorem comparesSetOnlyTheirFlags : Obligations.ComparesSetOnlyTheirFlags := by
  have hcmp := operates_compareWith (reg := State.a) fun _ _ h => h.1
  have hcpx := operates_compareWith (reg := State.x) fun _ _ h => h.2.1
  have hcpy := operates_compareWith (reg := State.y) fun _ _ h => h.2.2.1
  exact ⟨hcmp.reads cmpRows_read, hcmp.immediate fun _ => ⟨.of rfl rfl rfl rfl rfl, fun _ => rfl⟩,
    hcpx.reads cpxRows_read, hcpx.immediate fun _ => ⟨.of rfl rfl rfl rfl rfl, fun _ => rfl⟩,
    hcpy.reads cpyRows_read, hcpy.immediate fun _ => ⟨.of rfl rfl rfl rfl rfl, fun _ => rfl⟩⟩

/-! ### The undocumented NOPs, LAX and SAX -/

theorem operates_discardByte : Operates discardByte fun _ s t => t.p = s.p ∧ SameRegisters s t :=
  ⟨fun _ _ => ⟨rfl, ⟨rfl, rfl, rfl⟩, fun _ => rfl, rfl, rfl⟩,
    fun _ _ _ _ hu ht => ⟨ht.p.trans hu.p, sameRegisters_trans hu.registers ht.registers⟩⟩

theorem nopIllegalRows_read : ∀ m, ∀ row ∈ nopIllegalRows m, ReadRow discardByte m row
  | .zeroPage _ | .absolute _ | .zeroPageX _ | .absoluteX _ => fun row hrow => by
    fin_cases hrow <;> exact ⟨.of rfl rfl rfl rfl rfl, fun _ => rfl⟩
  | .zeroPageY _ | .absoluteY _ | .indirectX _ | .indirectY _ => List.forall_mem_nil _

theorem nopIllegalImmRows_immediate (v : Byte) : ∀ row ∈ nopIllegalImmRows v, ImmediateRow discardByte v row :=
  fun row hrow => by fin_cases hrow <;> exact ⟨.of rfl rfl rfl rfl rfl, fun _ => rfl⟩

/-- An implied NOP has no effect. -/
theorem impliedThen_nop {row : FormRow} (hrow : RowAgrees row)
    (hexec : ∀ s, exec row.instr s = impliedClass row.opcode noEffect s) :
    ImpliedThen row fun s t => t.p = s.p ∧ SameRegisters s t :=
  impliedThen_of_effect hrow hexec (fun _ => ⟨rfl, ⟨rfl, rfl, rfl⟩, fun _ => rfl, rfl, rfl⟩)
    fun _ => ⟨rfl, rfl, rfl, rfl, rfl⟩

/-- Settles O26: the forms with an operand discard it, the implied ones have no effect. -/
theorem illegalNopsDiscardTheirOperand : Obligations.IllegalNopsDiscardTheirOperand := by
  refine ⟨operates_discardByte.reads nopIllegalRows_read, fun s v row hrow => ?immediate, fun row hrow => ?implied⟩
  case immediate => exact operates_discardByte.runs_immediate (nopIllegalImmRows_immediate v row hrow) s
  case implied => fin_cases hrow <;> exact impliedThen_nop (.of rfl rfl rfl rfl rfl) fun _ => rfl

theorem laxRows_read : ∀ m, ∀ row ∈ laxRows m, ReadRow loadAX m row
  | .indirectX _ | .zeroPage _ | .absolute _ | .indirectY _ | .zeroPageY _ | .absoluteY _ =>
    List.forall_mem_singleton.mpr ⟨.of rfl rfl rfl rfl rfl, fun _ => rfl⟩
  | .zeroPageX _ | .absoluteX _ => List.forall_mem_nil _

theorem saxRows_store : ∀ m, ∀ row ∈ saxRows m, StoreRow aAndX m row
  | .indirectX _ | .zeroPage _ | .absolute _ | .zeroPageY _ =>
    List.forall_mem_singleton.mpr ⟨.of rfl rfl rfl rfl rfl, fun _ => rfl⟩
  | .zeroPageX _ | .absoluteX _ | .absoluteY _ | .indirectY _ => List.forall_mem_nil _

/-- Settles O27: LAX is the operation on A and X, SAX the store of A & X. -/
theorem laxAndSaxUseAAndX : Obligations.LaxAndSaxUseAAndX :=
  ⟨operates_loadAX.reads laxRows_read,
    storesThen_of_storeRow saxRows_store fun m s => congrArg₂ (· &&& ·) (resolve_a m s) (resolve_x m s)⟩

/-! ### The composites -/

/-- The row's instruction is the composite of a step of `new` and `flags` and an effect on the new byte. -/
structure CompositeRow (new flags : Byte → Byte → Byte) (effect : Byte → State → State) (m : MemOperand) (row : FormRow) :
    Prop where
  agrees : RowAgrees row
  exec_eq : ∀ s, exec row.instr s = compositeClass row.opcode m (statusStep new flags) effect s

/-- `WritesByte` outlives what leaves memory and the access record alone. -/
theorem writesByte_of_sameMemory {a : Addr} {v : Byte} {s r u t : State} (h : WritesByte a v s r u)
    (hmemory : SameMemory u t) (hbus : SameBus u t) : WritesByte a v s r t := by
  obtain ⟨haccesses, hsame, hother⟩ := h
  obtain ⟨haccesses', _⟩ := hbus
  exact ⟨haccesses'.trans haccesses, fun hram => (hmemory _).trans (hsame hram),
    fun b hb => (hmemory b).trans (hother b hb)⟩

/-- The state between a composite's two halves: the byte read is modified and written back, P is `flags` of it (R195). -/
def afterModify (new flags : Byte → Byte → Byte) (m : MemOperand) (s : State) : State :=
  let t := operand m s
  busWrite (resolve m s).ea (new t.1 t.2.p) { t.2 with p := flags t.1 t.2.p }

/-- The first half of a composite changes no register, and P as `flags` says. -/
theorem afterModify_registers (new flags : Byte → Byte → Byte) (m : MemOperand) (s : State) :
    SameRegisters s (afterModify new flags m s) ∧ (afterModify new flags m s).p = flags (operand m s).1 s.p := by
  obtain ⟨hregisters, hp⟩ := sameRegisterFile_operand m s
  exact ⟨hregisters, congrArg (flags (operand m s).1) hp⟩

/-- Rows of the composites write the new byte where they read the old one, and meet every `post` that the effect on the
new byte brings about after the step (R195, D5). -/
theorem modifiesThen_of_compositeRow {rows : MemOperand → List FormRow} {new flags : Byte → Byte → Byte}
    {spec : Byte → State → Byte} {effect : Byte → State → State} {post : Byte → State → State → Prop}
    (hrows : ∀ m, ∀ row ∈ rows m, CompositeRow new flags effect m row) (hspec : ∀ v s, new v s.p = spec v s)
    (heffect : ∀ v u, SameSurroundings u (effect v u))
    (hpost : ∀ v s u t, SameRegisters s u → u.p = flags v s.p → SameRegisterFile (effect (spec v s) u) t → post v s t) :
    ModifiesThen rows spec post := by
  intro s m row hrow
  obtain ⟨hagrees, hexec⟩ := hrows m row hrow
  obtain ⟨_, hp⟩ := sameRegisterFile_operand m s
  have hnew : new (operand m s).1 (operand m s).2.p = spec (operand m s).1 s := by rw [hp, hspec]
  have hsurr := heffect (new (operand m s).1 (operand m s).2.p) (afterModify new flags m s)
  refine runs_of_retire hagrees (hexec s) (hsurr.pc.trans (operand_pc m s))
    (sameControl_trans (sameControl_operand m s) hsurr.control) ⟨?post, ?write⟩
  case post =>
    obtain ⟨hregisters, hflags⟩ := afterModify_registers new flags m s
    refine hpost _ s (afterModify new flags m s) _ hregisters hflags ?_
    rw [← hnew]
    exact ⟨⟨rfl, rfl, rfl, rfl⟩, rfl⟩
  case write =>
    rw [← hnew]
    have hwrite : WritesByte (resolve m s).ea (new (operand m s).1 (operand m s).2.p) s (operand m s).2
        (afterModify new flags m s) := writesByte_busWrite _ _ (plainRam_operand m) (operand_mem m s) rfl
    exact writesByte_of_sameMemory hwrite hsurr.memory hsurr.bus

/-- What SLO, RLA and SRE leave: A is the combined byte `a`, C the bit shifted out, Z and N are A's (R196 to R198). -/
def CombinedIntoA (a : Byte) (out : Bool) (s t : State) : Prop :=
  t.a = a ∧ flagC t.p = out ∧ ZeroNegativeOf a t ∧ SameFlagsBut [0, 1, 7] s t ∧ t.x = s.x ∧ t.y = s.y ∧ t.sp = s.sp

/-- A composite that shifts memory and then combines the new byte with A by `f`. -/
theorem modifiesThen_shiftInto {rows : MemOperand → List FormRow} {new : Byte → Byte → Byte} {spec : Byte → State → Byte}
    {out : Nat} {f : Byte → Byte → Byte}
    (hrows : ∀ m, ∀ row ∈ rows m, CompositeRow new (shiftStatus new out) (fun r u => loadA (f u.a r) u) m row)
    (hspec : ∀ v s, new v s.p = spec v s) :
    ModifiesThen rows spec fun v s t => CombinedIntoA (f s.a (spec v s)) (v.getLsbD out) s t := by
  refine modifiesThen_of_compositeRow hrows hspec (fun _ _ => ⟨rfl, ⟨rfl, rfl, rfl⟩, fun _ => rfl, rfl, rfl⟩) ?_
  intro v s u t ⟨ha, hx, hy, hsp⟩ hu ht
  obtain ⟨ha', hx', hy', hsp'⟩ := ht.registers
  have hp : t.p = setZN (f s.a (spec v s)) u.p := by rw [ht.p, loadA, ha]
  have ha : t.a = f s.a (spec v s) := by rw [ha', loadA, ha]
  refine ⟨ha, ?carry, zeroNegativeOf_setZN hp, fun k _ hk => ?flags, hx'.trans hx, hy'.trans hy, hsp'.trans hsp⟩
  case carry => rw [hp, flagC_setZN, hu, shiftStatus, flagC_setZN, flagC_setC]
  case flags =>
    simp only [List.mem_cons, List.not_mem_nil, or_false, not_or] at hk
    obtain ⟨hc, hz, hn⟩ := hk
    rw [hp, hu, shiftStatus, setZN_getLsbD, if_neg hn, if_neg hz, setZN_getLsbD, if_neg hn, if_neg hz, setC_getLsbD,
      if_neg hc]

theorem sloRows_composite : ∀ m, ∀ row ∈ sloRows m, CompositeRow aslByte (shiftStatus aslByte 7) oraA m row
  | .indirectX _ | .zeroPage _ | .absolute _ | .indirectY _ | .zeroPageX _ | .absoluteY _ | .absoluteX _ =>
    List.forall_mem_singleton.mpr ⟨.of rfl rfl rfl rfl rfl, fun _ => rfl⟩
  | .zeroPageY _ => List.forall_mem_nil _

theorem rlaRows_composite : ∀ m, ∀ row ∈ rlaRows m, CompositeRow rolByte (shiftStatus rolByte 7) andA m row
  | .indirectX _ | .zeroPage _ | .absolute _ | .indirectY _ | .zeroPageX _ | .absoluteY _ | .absoluteX _ =>
    List.forall_mem_singleton.mpr ⟨.of rfl rfl rfl rfl rfl, fun _ => rfl⟩
  | .zeroPageY _ => List.forall_mem_nil _

theorem sreRows_composite : ∀ m, ∀ row ∈ sreRows m, CompositeRow lsrByte (shiftStatus lsrByte 0) eorA m row
  | .indirectX _ | .zeroPage _ | .absolute _ | .indirectY _ | .zeroPageX _ | .absoluteY _ | .absoluteX _ =>
    List.forall_mem_singleton.mpr ⟨.of rfl rfl rfl rfl rfl, fun _ => rfl⟩
  | .zeroPageY _ => List.forall_mem_nil _

/-- Settles O28: each shifts memory and then loads A with A combined with the new byte. -/
theorem shiftCompositesCombineIntoA : Obligations.ShiftCompositesCombineIntoA :=
  ⟨modifiesThen_shiftInto (f := (· ||| ·)) sloRows_composite fun v s => aslByte_eq v s.p,
    modifiesThen_shiftInto (f := (· &&& ·)) rlaRows_composite fun v s => rolByte_eq v s.p,
    modifiesThen_shiftInto (f := (· ^^^ ·)) sreRows_composite fun v s => lsrByte_eq v s.p⟩

theorem rraRows_composite : ∀ m, ∀ row ∈ rraRows m, CompositeRow rorByte (shiftStatus rorByte 0) adcA m row
  | .indirectX _ | .zeroPage _ | .absolute _ | .indirectY _ | .zeroPageX _ | .absoluteY _ | .absoluteX _ =>
    List.forall_mem_singleton.mpr ⟨.of rfl rfl rfl rfl rfl, fun _ => rfl⟩
  | .zeroPageY _ => List.forall_mem_nil _

theorem dcpRows_composite : ∀ m, ∀ row ∈ dcpRows m,
    CompositeRow (fun v _ => v - 1) (fun v => setZN (v - 1)) (compareWith State.a) m row
  | .indirectX _ | .zeroPage _ | .absolute _ | .indirectY _ | .zeroPageX _ | .absoluteY _ | .absoluteX _ =>
    List.forall_mem_singleton.mpr ⟨.of rfl rfl rfl rfl rfl, fun _ => rfl⟩
  | .zeroPageY _ => List.forall_mem_nil _

theorem isbRows_composite : ∀ m, ∀ row ∈ isbRows m,
    CompositeRow (fun v _ => v + 1) (fun v => setZN (v + 1)) sbcA m row
  | .indirectX _ | .zeroPage _ | .absolute _ | .indirectY _ | .zeroPageX _ | .absoluteY _ | .absoluteX _ =>
    List.forall_mem_singleton.mpr ⟨.of rfl rfl rfl rfl rfl, fun _ => rfl⟩
  | .zeroPageY _ => List.forall_mem_nil _

theorem setZN_keeps_others (v p : Byte) : ∀ k, k ∉ [1, 7] → (setZN v p).getLsbD k = p.getLsbD k := fun k hk => by
  simp only [List.mem_cons, List.not_mem_nil, or_false, not_or] at hk
  obtain ⟨hz, hn⟩ := hk
  rw [setZN_getLsbD, if_neg hn, if_neg hz]

theorem shiftStatus_keeps_others (new : Byte → Byte → Byte) (out : Nat) (v p : Byte) :
    ∀ k, k ∉ [0, 1, 7] → (shiftStatus new out v p).getLsbD k = p.getLsbD k := fun k hk => by
  obtain ⟨hc, hzn⟩ := not_or.mp (mt List.mem_cons.mpr hk)
  rw [shiftStatus, setZN_keeps_others _ _ k hzn, setC_getLsbD, if_neg hc]

/-- Settles O29: the second half works on the new byte, with the P that the first half left. -/
theorem arithmeticCompositesWorkOnTheNewByte : Obligations.ArithmeticCompositesWorkOnTheNewByte := by
  refine ⟨?rra, ?dcp, ?isb⟩
  case rra =>
    refine modifiesThen_of_compositeRow rraRows_composite (fun v s => rorByte_eq v s.p) operates_adcA.surroundings ?_
    intro v s u t hu hp ht
    have hcarry : flagC (shiftStatus rorByte 0 v s.p) = v.getLsbD 0 := by rw [shiftStatus, flagC_setZN, flagC_setC]
    rw [← hcarry]
    exact addsToA_of_adcA hu hp (fun k hk => shiftStatus_keeps_others _ _ _ _ k (by simp_all)) ht
  case dcp =>
    have hcmp := operates_compareWith (reg := State.a) fun _ _ h => h.1
    refine modifiesThen_of_compositeRow dcpRows_composite (fun _ _ => rfl) hcmp.surroundings ?_
    intro v s u t hu hp ht
    have ⟨ha, _⟩ := hu
    have hp' : t.p = setCompare s.a (v - 1) (setZN (v - 1) s.p) := by rw [ht.p, compareWith, ha, hp]
    exact compared_of_setCompare hp' (fun k hk => setZN_keeps_others _ _ k (by simp_all))
      (sameRegisters_trans hu ht.registers)
  case isb =>
    refine modifiesThen_of_compositeRow isbRows_composite (fun _ _ => rfl) operates_sbcA.surroundings ?_
    intro v s u t hu hp ht
    rw [← flagC_setZN (v + 1) s.p]
    exact addsToA_of_adcA hu hp (fun k hk => setZN_keeps_others _ _ k (by simp_all)) ht

end Sys2Proof.Proofs
end

section
/-! Proof that D is inert (10_state.md R29, 42_arithmetic_logic.md R120, decision D21): every part of an instruction, from
two states that differ at most in bit 3 of P, leads to two such states. The classes then follow along the meanings of
`exec_meant`. -/

namespace Sys2Proof.Proofs

open Sys2Proof Sys2Proof.Machine Sys2Proof.Spec

/-! ### Two values of P that differ at most in D -/

/-- The two values of P differ at most in bit 3. -/
def AgreeButD (p q : Byte) : Prop := ∀ k, k ≠ 3 → q.getLsbD k = p.getLsbD k

theorem agreeButD_setD (d : Bool) (p : Byte) : AgreeButD p (setD d p) := fun k hk => by rw [setD_getLsbD, if_neg hk]

section
variable {p q : Byte} (h : AgreeButD p q)
include h

theorem AgreeButD.setD_eq (d : Bool) : setD d p = setD d q := status_ext fun k _ => by
  rw [setD_getLsbD, setD_getLsbD]
  split
  case isTrue => rfl
  case isFalse hk => exact (h k hk).symm

theorem AgreeButD.setBit (b : Bool) {i : Nat} (hi : i < 8) : AgreeButD (setBit p i b) (setBit q i b) := fun k hk => by
  rw [setBit_getLsbD _ _ _ _ hi, setBit_getLsbD _ _ _ _ hi, h k hk]

theorem AgreeButD.setC (b : Bool) : AgreeButD (setC b p) (setC b q) := h.setBit b (by decide)

theorem AgreeButD.setZN (v : Byte) : AgreeButD (setZN v p) (setZN v q) :=
  (h.setBit (v == 0) (by decide)).setBit (v.getLsbD 7) (by decide)

theorem AgreeButD.setAdder (sum : Sum) : AgreeButD (setAdder sum p) (setAdder sum q) :=
  ((h.setC sum.carry).setBit sum.overflow (by decide)).setZN sum.result

theorem AgreeButD.setCompare (reg v : Byte) : AgreeButD (setCompare reg v p) (setCompare reg v q) :=
  ((h.setC _).setBit _ (by decide)).setBit _ (by decide)

theorem AgreeButD.setBitTest (a v : Byte) : AgreeButD (setBitTest a v p) (setBitTest a v q) :=
  ((h.setBit _ (by decide)).setBit _ (by decide)).setBit _ (by decide)

/-- PLP keeps no more than B of the old P. -/
theorem AgreeButD.statusPulledByPlp (v : Byte) : AgreeButD (statusPulledByPlp v p) (statusPulledByPlp v q) := fun k _ => by
  rw [statusPulledByPlp_getLsbD, statusPulledByPlp_getLsbD, h 4 (by decide)]

theorem AgreeButD.flagC : flagC q = flagC p := h 0 (by decide)

end

/-- Every branch condition reads a flag other than D. -/
theorem branchConditions_agree : ∀ e ∈ branchConditions, ∀ s q, AgreeButD s.p q → e.2 { s with p := q } = e.2 s := by
  intro e he s q h
  have hC : flagC q = flagC s.p := h 0 (by decide)
  have hZ : flagZ q = flagZ s.p := h 1 (by decide)
  have hV : flagV q = flagV s.p := h 6 (by decide)
  have hN : flagN q = flagN s.p := h 7 (by decide)
  fin_cases he <;> simp only [hC, hZ, hV, hN]

/-! ### Two states that differ at most in D -/

/-- The two states differ at most in bit 3 of P. -/
def ApartFromD (s t : State) : Prop := ∃ q, AgreeButD s.p q ∧ t = { s with p := q }

/-- The step leads from two states that differ at most in D to two such states. -/
def DInert (f : State → State) : Prop := ∀ s q, AgreeButD s.p q → ApartFromD (f s) (f { s with p := q })

theorem DInert.apart {f : State → State} (hf : DInert f) {s t : State} (h : ApartFromD s t) : ApartFromD (f s) (f t) := by
  obtain ⟨q, hq, rfl⟩ := h
  exact hf s q hq

/-- The same on a byte that both runs have. -/
theorem DInert.apart_at {f : Byte → State → State} (hf : ∀ v, DInert (f v)) {v w : Byte} (hw : w = v) {s t : State}
    (h : ApartFromD s t) : ApartFromD (f v s) (f w t) := by
  rw [hw]
  exact (hf v).apart h

theorem dInert_retire (op : Byte) (crossed : Bool) : DInert (retire op crossed) := fun _ q h => ⟨q, h, rfl⟩

theorem dInert_busRead (ad : Addr) : DInert fun s => (busRead ad s).2 := fun _ q h => ⟨q, h, rfl⟩

theorem dInert_busWrite (ad : Addr) (v : Byte) : DInert (busWrite ad v) := fun _ q h => ⟨q, h, rfl⟩

theorem dInert_setA (v : Byte) : DInert fun s => { s with a := v } := fun _ q h => ⟨q, h, rfl⟩

theorem dInert_adcA (v : Byte) : DInert (adcA v) := fun s q h =>
  ⟨setAdder (addWithCarry s.a v (flagC s.p)) q, h.setAdder _, by simp only [adcA, h.flagC]⟩

/-- Every effect of an implied instruction but PHP's, which pushes P. -/
theorem dInert_implied : ∀ e ∈ impliedEffects, e.1 ≠ "PHP" → DInert e.2 := by
  simp only [impliedEffects, List.forall_mem_cons]
  exact ⟨
    fun _ s _ h => ⟨_, h.setZN s.a, rfl⟩, fun _ s _ h => ⟨_, h.setZN s.a, rfl⟩, fun _ s _ h => ⟨_, h.setZN s.x, rfl⟩,
    fun _ s _ h => ⟨_, h.setZN s.y, rfl⟩, fun _ s _ h => ⟨_, h.setZN s.sp, rfl⟩, fun _ _ q h => ⟨q, h, rfl⟩,
    fun _ s _ h => ⟨_, h.setZN (s.x + 1), rfl⟩, fun _ s _ h => ⟨_, h.setZN (s.y + 1), rfl⟩,
    fun _ s _ h => ⟨_, h.setZN (s.x - 1), rfl⟩, fun _ s _ h => ⟨_, h.setZN (s.y - 1), rfl⟩,
    fun _ _ _ h => ⟨_, h.setBit false (by decide), rfl⟩, fun _ _ _ h => ⟨_, h.setBit true (by decide), rfl⟩,
    fun _ _ _ h => ⟨_, h.setBit false (by decide), rfl⟩, fun _ _ _ h => ⟨_, h.setBit true (by decide), rfl⟩,
    fun _ _ _ h => ⟨_, h.setBit false (by decide), rfl⟩, fun _ _ _ h => ⟨_, h.setBit true (by decide), rfl⟩,
    fun _ _ _ h => ⟨_, h.setBit false (by decide), rfl⟩, fun _ _ q h => ⟨q, h, rfl⟩, fun hm => absurd rfl hm,
    fun _ s _ h => ⟨_, h.setZN (pull s).1, rfl⟩, fun _ s _ h => ⟨_, h.statusPulledByPlp (pull s).1, rfl⟩,
    fun _ _ q h => ⟨q, h, rfl⟩, List.forall_mem_nil _⟩

/-- Every effect of an instruction that reads a byte. -/
theorem dInert_read : ∀ e ∈ readEffects, ∀ v, DInert (e.2 v) := by
  simp only [readEffects, List.forall_mem_cons]
  exact ⟨
    fun v _ _ h => ⟨_, h.setZN v, rfl⟩, fun v _ _ h => ⟨_, h.setZN v, rfl⟩, fun v _ _ h => ⟨_, h.setZN v, rfl⟩,
    dInert_adcA, fun v => dInert_adcA (~~~v), fun v s _ h => ⟨_, h.setZN (s.a &&& v), rfl⟩,
    fun v s _ h => ⟨_, h.setZN (s.a ||| v), rfl⟩, fun v s _ h => ⟨_, h.setZN (s.a ^^^ v), rfl⟩,
    fun v s _ h => ⟨_, h.setCompare s.a v, rfl⟩, fun v s _ h => ⟨_, h.setCompare s.x v, rfl⟩,
    fun v s _ h => ⟨_, h.setCompare s.y v, rfl⟩, fun v s _ h => ⟨_, h.setBitTest s.a v, rfl⟩,
    fun v _ _ h => ⟨_, h.setZN v, rfl⟩, fun _ _ q h => ⟨q, h, rfl⟩, List.forall_mem_nil _⟩

/-- The bytes that are stored are made of A, X and Y. -/
theorem storeValues_agree : ∀ e ∈ storeValues, ∀ s q, e.2 { s with p := q } = e.2 s :=
  fun _ he _ _ => by fin_cases he <;> rfl

/-- A read-modify-write step gives the same byte from two states that differ at most in D, and two such states. -/
def DInertStep (step : Byte → State → Byte × State) : Prop := ∀ v s q, AgreeButD s.p q →
  (step v { s with p := q }).1 = (step v s).1 ∧ ApartFromD (step v s).2 (step v { s with p := q }).2

/-- The shifts; a rotate takes C, not D, into its new byte. -/
theorem dInertStep_shift {new : Byte → Byte → Byte} {out : Nat} (hnew : ∀ v p q, flagC q = flagC p → new v q = new v p) :
    DInertStep (statusStep new (shiftStatus new out)) := fun v s q h => by
  have heq := hnew v s.p q h.flagC
  refine ⟨heq, _, (h.setC (v.getLsbD out)).setZN (new v s.p), ?_⟩
  simp only [statusStep, shiftStatus, heq]

theorem dInertStep_modify : ∀ e ∈ modifySteps, DInertStep e.2 := by
  simp only [modifySteps, List.forall_mem_cons]
  exact ⟨dInertStep_shift (new := aslByte) fun _ _ _ _ => rfl, dInertStep_shift (new := lsrByte) fun _ _ _ _ => rfl,
    dInertStep_shift (new := rolByte) fun _ _ _ h => by rw [rolByte, rolByte, h],
    dInertStep_shift (new := rorByte) fun _ _ _ h => by rw [rorByte, rorByte, h],
    fun v _ _ h => ⟨rfl, _, h.setZN (v + 1), rfl⟩, fun v _ _ h => ⟨rfl, _, h.setZN (v - 1), rfl⟩, List.forall_mem_nil _⟩

/-- A composite is made of a step and an effect of the other tables. -/
theorem composite_parts : ∀ e ∈ compositeEffects, (∃ m, (m, e.2.1) ∈ modifySteps) ∧ ∃ m, (m, e.2.2) ∈ readEffects := by
  simp only [compositeEffects, List.forall_mem_cons]
  exact ⟨⟨⟨_, listed 0 rfl⟩, _, listed 6 rfl⟩, ⟨⟨_, listed 2 rfl⟩, _, listed 5 rfl⟩, ⟨⟨_, listed 1 rfl⟩, _, listed 7 rfl⟩,
    ⟨⟨_, listed 3 rfl⟩, _, listed 3 rfl⟩, ⟨⟨_, listed 5 rfl⟩, _, listed 8 rfl⟩, ⟨⟨_, listed 4 rfl⟩, _, listed 4 rfl⟩,
    List.forall_mem_nil _⟩

/-- The resolver does not look at P. -/
theorem resolve_withP (m : MemOperand) (s : State) (q : Byte) :
    resolve m { s with p := q } = { resolve m s with state := { (resolve m s).state with p := q } } := by
  cases m <;> rfl

/-! ### The classes -/

/-- Both outcomes are next states, and differ at most in D. -/
def OutcomesApartFromD (out out' : Out) : Prop := ∃ t u, out = .next t ∧ out' = .next u ∧ ApartFromD t u

theorem outcomesApart_next {t u : State} (h : ApartFromD t u) : OutcomesApartFromD (.next t) (.next u) :=
  ⟨t, u, rfl, rfl, h⟩

theorem outcomesApart_retire {t u : State} (op : Byte) (crossed : Bool) (h : ApartFromD t u) :
    OutcomesApartFromD (.next (retire op crossed t)) (.next (retire op crossed u)) :=
  outcomesApart_next ((dInert_retire op crossed).apart h)

section
variable {s : State} {q : Byte} (h : AgreeButD s.p q) (op : Byte)
include h

theorem resolve_apart (m : MemOperand) : ApartFromD (resolve m s).state { (resolve m s).state with p := q } :=
  ⟨q, (resolve_p m s).symm ▸ h, rfl⟩

theorem readClass_apart {f : Byte → State → State} (m : MemOperand) (hf : ∀ v, DInert (f v)) :
    OutcomesApartFromD (readClass op m f s) (readClass op m f { s with p := q }) := by
  have hoperand := (dInert_busRead (resolve m s).ea).apart (resolve_apart h m)
  rw [readClass, readClass, resolve_withP m s q]
  exact outcomesApart_retire op _ ((hf (operand m s).1).apart hoperand)

theorem storeClass_apart {value : State → Byte} (m : MemOperand) (hvalue : ∀ u r, value { u with p := r } = value u) :
    OutcomesApartFromD (storeClass op m value s) (storeClass op m value { s with p := q }) := by
  rw [storeClass, storeClass, resolve_withP m s q]
  exact outcomesApart_retire op _ (DInert.apart_at (dInert_busWrite _) (hvalue _ _) (resolve_apart h m))

/-- The modify half of the RMW class and of the composites. -/
theorem modifyStep_apart {step : Byte → State → Byte × State} (m : MemOperand) (hstep : DInertStep step) :
    (step (operand m s).1 { (operand m s).2 with p := q }).1 = (step (operand m s).1 (operand m s).2).1 ∧
      ApartFromD (step (operand m s).1 (operand m s).2).2 (step (operand m s).1 { (operand m s).2 with p := q }).2 :=
  hstep _ _ q ((sameRegisterFile_operand m s).p ▸ h)

theorem modifyClass_apart {step : Byte → State → Byte × State} (m : MemOperand) (hstep : DInertStep step) :
    OutcomesApartFromD (modifyClass op m step s) (modifyClass op m step { s with p := q }) := by
  obtain ⟨hnew, hstate⟩ := modifyStep_apart h m hstep
  rw [modifyClass, modifyClass, resolve_withP m s q]
  exact outcomesApart_retire op _ (DInert.apart_at (dInert_busWrite (resolve m s).ea) hnew hstate)

theorem compositeClass_apart {step : Byte → State → Byte × State} {f : Byte → State → State} (m : MemOperand)
    (hstep : DInertStep step) (hf : ∀ v, DInert (f v)) :
    OutcomesApartFromD (compositeClass op m step f s) (compositeClass op m step f { s with p := q }) := by
  obtain ⟨hnew, hstate⟩ := modifyStep_apart h m hstep
  have hwrite := DInert.apart_at (dInert_busWrite (resolve m s).ea) hnew hstate
  rw [compositeClass, compositeClass, resolve_withP m s q]
  exact outcomesApart_retire op _ (DInert.apart_at hf hnew hwrite)

theorem accumulatorClass_apart {step : Byte → State → Byte × State} (hstep : DInertStep step) :
    OutcomesApartFromD (accumulatorClass op step s) (accumulatorClass op step { s with p := q }) := by
  obtain ⟨hnew, hstate⟩ := hstep s.a s q h
  exact outcomesApart_retire op false (DInert.apart_at dInert_setA hnew hstate)

theorem branchClass_apart (cond : Bool) (off : Byte) :
    OutcomesApartFromD (branchClass op cond off s) (branchClass op cond off { s with p := q }) := by
  cases cond with
  | false => exact outcomesApart_retire op false ⟨q, h, rfl⟩
  | true => exact outcomesApart_next ⟨q, h, rfl⟩

/-- Every meaning but PHP's, BRK's and a trap's. -/
theorem outcomesApart_of_meaning {i : Instr} {m : String} (hmeaning : Meaning i op m) (hm : m ≠ "PHP" ∧ m ≠ "BRK")
    (hslot : (descriptor op).slot ≠ .trap) : OutcomesApartFromD (exec i s) (exec i { s with p := q }) := by
  obtain ⟨hphp, hbrk⟩ := hm
  cases hmeaning with
  | implied f hf e => rw [e, e]; exact outcomesApart_retire op false (dInert_implied _ hf hphp s q h)
  | accumulator f hf _ e => rw [e, e]; exact accumulatorClass_apart h op (dInertStep_modify _ hf)
  | immediate f v hf e => rw [e, e]; exact outcomesApart_retire op false (dInert_read _ hf v s q h)
  | read f r hf e => rw [e, e]; exact readClass_apart h op r (dInert_read _ hf)
  | store f r hf e => rw [e, e]; exact storeClass_apart h op r (storeValues_agree _ hf)
  | modify f r hf _ e => rw [e, e]; exact modifyClass_apart h op r (dInertStep_modify _ hf)
  | composite f g r hf e =>
    obtain ⟨⟨_, hstep⟩, _, heffect⟩ := composite_parts _ hf
    rw [e, e]
    exact compositeClass_apart h op r (dInertStep_modify _ hstep) (dInert_read _ heffect)
  | branch f off hf e =>
    have hcond : f { s with p := q } = f s := branchConditions_agree _ hf s q h
    rw [e, e, hcond]
    exact branchClass_apart h op (f s) off
  | jumpAbsolute w _ e | jumpIndirect w _ e | jsr w _ e => rw [e, e]; exact outcomesApart_next ⟨q, h, rfl⟩
  | rts _ e => rw [e, e]; exact outcomesApart_next ⟨q, h, rfl⟩
  | brk hm _ => exact absurd hm hbrk
  | rti _ e => rw [e, e]; exact outcomesApart_next ⟨_, fun _ _ => rfl, rfl⟩
  | trap hs _ => exact absurd hs hslot

end

/-- Settles O14: the two states differ at most in D, and so do the two outcomes. -/
theorem decimalFlagChangesNoResult : Obligations.DecimalFlagChangesNoResult := by
  intro i s d hm hslot
  obtain ⟨hmeaning, _⟩ := exec_meant i
  have hnot : mnemonic i ≠ "PHP" ∧ mnemonic i ≠ "BRK" := by simpa using hm
  obtain ⟨t, _, ht, hu, q, hq, rfl⟩ := outcomesApart_of_meaning (agreeButD_setD d s.p) i.opcode hmeaning hnot hslot
  exact ⟨t, _, ht, hu, by rw [hq.setD_eq false]⟩

end Sys2Proof.Proofs
end

section
/-! Proofs about the branches and jumps (44_control_transfer.md R150 to R159), the addressing modes (40_addressing.md R84 to
R92), plain RAM (20_memory.md), and the rows with one effect: TXS, the flag instructions and the traps. -/

namespace Sys2Proof.Proofs

open Sys2Proof Sys2Proof.Machine Sys2Proof.Spec Sys2Proof.Laws

/-- An address given as a number below 65536. -/
theorem toNat_addr {n : Nat} (h : n < 65536) : (BitVec.ofNat 16 n).toNat = n :=
  (BitVec.toNat_ofNat n 16).trans (Nat.mod_eq_of_lt h)

/-! ### Branches -/

/-- What a branch whose condition holds or fails as `cond` does (R150). -/
theorem branch_completes {row : FormRow} {cond : Bool} {off : Byte} {s : State} (hrow : RowAgrees row)
    (hplus : row.plusIfCrossed = false) (hexec : exec row.instr s = branchClass row.opcode cond off s)
    (hsize : row.length = 2) :
    Completes row (row.cycles + if cond then
        (if (s.pc + 2).toNat / 256 ≠ (s.pc + 2 + off.signExtend 16).toNat / 256 then 2 else 1) else 0) s fun t =>
      t.pc = (if cond then s.pc + 2 + off.signExtend 16 else s.pc + 2) ∧ t.p = s.p ∧ SameRegisters s t ∧
        SameMemory s t ∧ SameBus s t := by
  cases cond with
  | false =>
    have hcount : cyclesOf row.opcode false = row.cycles + 0 := by rw [hrow.cyclesOf_eq, hplus]; rfl
    have hpc : (retire row.opcode false s).pc = s.pc + 2 := by rw [retire_pc, hrow.size, hsize]; rfl
    exact ⟨hrow.opcode, hrow.length, _, hexec, congrArg CallResult.cycles hcount, ⟨rfl, rfl, rfl⟩, hpc, rfl,
      ⟨rfl, rfl, rfl, rfl⟩, fun _ => rfl, rfl, rfl⟩
  | true =>
    have hcrossed : (resolveRelative off s).2 = true ↔ (s.pc + 2).toNat / 256 ≠ (s.pc + 2 + off.signExtend 16).toNat / 256 :=
      pageCrossed_iff _ _
    refine ⟨hrow.opcode, hrow.length, _, hexec.trans (branchClass_taken row.opcode off s), ?count, ⟨rfl, rfl, rfl⟩, rfl, rfl,
      ⟨rfl, rfl, rfl, rfl⟩, fun _ => rfl, rfl, rfl⟩
    case count =>
      refine congrArg CallResult.cycles ?_
      rw [hrow.cycles, if_pos rfl, if_congr hcrossed rfl rfl, Nat.add_assoc]
      split <;> rfl

/-- Settles O17: each branch has the row, the condition and the class of its opcode. -/
theorem branchesFollowTheirCondition : Obligations.BranchesFollowTheirCondition := by
  intro s off
  refine ⟨?_, ?_, ?_, ?_, ?_, ?_, ?_, ?_⟩ <;> exact branch_completes (.of rfl rfl rfl rfl rfl) rfl rfl rfl

/-! ### Jumps -/

/-- The high byte of one address with the low byte of another, as the masks of R90 put them together. -/
theorem masks_eq_word (a b : Addr) : (a &&& 0xFF00) ||| (b &&& 0x00FF) = word (hi a) (lo b) := by
  have hhigh : ∀ k < 16, (0xFF00 : Addr).getLsbD k = decide (8 ≤ k) := by decide
  have hlow : ∀ k < 16, (0x00FF : Addr).getLsbD k = decide (k < 8) := by decide
  refine BitVec.eq_of_getLsbD_eq fun k hk => ?_
  rw [BitVec.getLsbD_or, BitVec.getLsbD_and, BitVec.getLsbD_and, hhigh k hk, hlow k hk, word, BitVec.getLsbD_append]
  by_cases hk8 : k < 8
  case pos => simp [lo, hk8]
  case neg => simp [hi, hk8, show 8 ≤ k by omega, show k - 8 < 8 by omega, show 8 + (k - 8) = k by omega]

/-- The address of the second byte of an indirect pointer, on the pointer's page (R90). -/
def pointerHigh (w : Addr) : Nat := if w.toNat % 256 = 255 then w.toNat - 255 else w.toNat + 1

theorem pointerHigh_lt (w : Addr) : pointerHigh w < 65536 := by
  have hw := w.isLt
  rw [pointerHigh]
  split <;> omega

theorem masks_eq_pointerHigh (w : Addr) :
    (w &&& 0xFF00) ||| ((w + 1) &&& 0x00FF) = BitVec.ofNat 16 (pointerHigh w) := by
  have hw := w.isLt
  apply BitVec.eq_of_toNat_eq
  rw [masks_eq_word, word_toNat, hi_toNat, lo_toNat, BitVec.toNat_add, BitVec.toNat_ofNat, pointerHigh,
    show (1 : Addr).toNat = 1 from rfl]
  split <;> omega

/-- JMP Indirect takes the word at the pointer (R159). -/
theorem exec_jmpInd (w : Addr) (s : State) :
    exec (.jmpInd w) s = .next { (readPair w (BitVec.ofNat 16 (pointerHigh w)) s).2 with
      pc := (readPair w (BitVec.ofNat 16 (pointerHigh w)) s).1, returned := .cycles (baseCycles 0x6C) } := by
  rw [← masks_eq_pointerHigh]
  rfl

/-- Settles O18: the target is the operand word, or the word at the pointer. -/
theorem jmpTakesItsTarget : Obligations.JmpTakesItsTarget := by
  refine fun s w => ⟨?absolute, rfl, rfl, _, exec_jmpInd w s, rfl, ⟨rfl, rfl, rfl⟩, fun hscript => ?ram,
    readPair_reads w _ s, rfl, ⟨rfl, rfl, rfl, rfl⟩, fun _ => rfl⟩
  case absolute =>
    exact ⟨rfl, rfl, _, rfl, rfl, ⟨rfl, rfl, rfl⟩, rfl, rfl, ⟨rfl, rfl, rfl, rfl⟩, fun _ => rfl, rfl, rfl⟩
  case ram =>
    have hhigh : (BitVec.ofNat 16 (pointerHigh w)).toNat = pointerHigh w :=
      toNat_addr (pointerHigh_lt w)
    exact (readPair_ram w (BitVec.ofNat 16 (pointerHigh w)) hscript).trans (by rw [hhigh]; rfl)

/-! ### Plain RAM -/

/-- Settles O44: the laws of the bus and the stack, on plain RAM. -/
theorem plainRamReadsWhatWasWritten : Obligations.PlainRamReadsWhatWasWritten := by
  intro s a b v ⟨hscript, hwf⟩
  have hscript' : (busWrite a v s).script = [] := (busWrite_script a v s).trans (by rw [hscript]; rfl)
  refine ⟨?same, fun hb => ?other, pull_push v hscript hwf, BitVec.sub_add_cancel s.sp 1, stackAddr_toNat s.sp⟩
  case same => rw [busRead_ram a hscript', busWrite_read_same a v hscript hwf]
  case other =>
    rw [busRead_ram b hscript', busRead_ram b hscript, busWrite_read_other a v s (mt BitVec.eq_of_toNat_eq hb)]

/-! ### Addressing modes -/

theorem zext_toNat (v : Byte) : (zext v).toNat = v.toNat := BitVec.toNat_setWidth_of_le (by decide)

theorem zext_eq_ofNat (v : Byte) : zext v = BitVec.ofNat 16 v.toNat := (BitVec.ofNat_toNat 16 v).symm

/-- An index within page 0 is added modulo 256 (R85, R91). -/
theorem zext_add (z v : Byte) : zext (z + v) = BitVec.ofNat 16 ((z.toNat + v.toNat) % 256) := by
  rw [zext_eq_ofNat, BitVec.toNat_add]

/-- The word at a zero-page pointer is read at the pointer's byte and the next one of page 0 (R91, R92). -/
theorem zeroPageWord_eq (z : Byte) (s : State) : zeroPageWord z s =
    readPair (BitVec.ofNat 16 z.toNat) (BitVec.ofNat 16 ((z.toNat + 1) % 256)) s := by
  rw [← zext_eq_ofNat, show (1 : Nat) = (1 : Byte).toNat from rfl, ← zext_add]
  rfl

theorem zeroPageWord_ram (z : Byte) {s : State} (h : s.script = []) :
    (zeroPageWord z s).1.toNat = ramWord s.mem z.toNat ((z.toNat + 1) % 256) := by
  have hz := z.isLt
  rw [zeroPageWord_eq, readPair_ram _ _ h, toNat_addr (by omega), toNat_addr (by omega)]

theorem zeroPageWord_reads (z : Byte) (s : State) :
    ∃ l h, (zeroPageWord z s).2.accesses = s.accesses ++
        [.read (BitVec.ofNat 16 z.toNat) l, .read (BitVec.ofNat 16 ((z.toNat + 1) % 256)) h] ∧
      (zeroPageWord z s).1.toNat = l.toNat + 256 * h.toNat := by
  rw [zeroPageWord_eq]
  exact readPair_reads _ _ s

/-- Settles O45: none of these modes leaves page 0 for its pointer or reports a crossing. -/
theorem zeroPageModesStayInPageZero : Obligations.ZeroPageModesStayInPageZero := by
  intro s z w
  have hpointer : (z + s.x).toNat = (z.toNat + s.x.toNat) % 256 := BitVec.toNat_add z s.x
  refine ⟨?zeroPage, ?zeroPageX, ?zeroPageY, rfl, rfl, fun hscript => ?ram, ?reads⟩
  case zeroPage => rw [← zext_eq_ofNat]; rfl
  case zeroPageX => rw [← zext_add]; rfl
  case zeroPageY => rw [← zext_add]; rfl
  case ram =>
    rw [← hpointer]
    exact zeroPageWord_ram (z + s.x) hscript
  case reads =>
    rw [← hpointer]
    exact zeroPageWord_reads (z + s.x) s

/-- The statements' `sumOk`: the address is base plus index modulo 65536, and the crossing a change of page. -/
def SumOk (base : Nat) (index : Byte) (ea : Addr) (crossed : Bool) : Prop :=
  ea.toNat = (base + index.toNat) % 65536 ∧ (crossed = true ↔ base / 256 ≠ ea.toNat / 256)

theorem sumOk_indexed (base : Addr) (index : Byte) (s : State) :
    SumOk base.toNat index (indexed base index s).ea (indexed base index s).crossed :=
  ⟨(BitVec.toNat_add base (zext index)).trans (by rw [zext_toNat]), pageCrossed_iff _ _⟩

/-- Adding a sign-extended byte to an address adds its signed value modulo 65536 (R86). -/
theorem add_sext_toNat (a : Addr) (off : Byte) : ((a + sext off).toNat : Int) = ((a.toNat : Int) + off.toInt) % 65536 := by
  have hsigned : (sext off).toInt = off.toInt := BitVec.toInt_signExtend_of_le (by decide)
  have ha := a.isLt
  have hoff := (sext off).isLt
  rw [← hsigned, BitVec.toInt_eq_toNat_cond, BitVec.toNat_add]
  split <;> omega

/-- Settles O46: an index or an offset is added modulo 65536, and a crossing compares the pages. -/
theorem indexedModesReportPageCrossing : Obligations.IndexedModesReportPageCrossing := by
  intro s z off w
  have hnext : (s.pc + 2).toNat = (s.pc.toNat + 2) % 65536 := BitVec.toNat_add s.pc 2
  refine ⟨sumOk_indexed w s.x s, sumOk_indexed w s.y s, rfl, rfl, fun hscript => ?indirectY, ?reads, ?target, ?crossed⟩
  case indirectY =>
    have hsum := sumOk_indexed (zeroPageWord z s).1 s.y (zeroPageWord z s).2
    rw [zeroPageWord_ram z hscript] at hsum
    exact hsum
  case reads =>
    obtain ⟨l, h, haccesses, _⟩ := zeroPageWord_reads z s
    exact ⟨l, h, haccesses⟩
  case target =>
    have htarget := add_sext_toNat (s.pc + 2) off
    rw [hnext] at htarget
    exact htarget.trans (by omega)
  case crossed =>
    rw [← hnext]
    exact pageCrossed_iff _ _

/-! ### Rows with one effect -/

/-- Settles O4: the effect of TXS is SP's new value. -/
theorem txsCopiesXToSpWithoutFlags : Obligations.TxsCopiesXToSpWithoutFlags :=
  impliedThen_of_effect (effect := txs) (.of rfl rfl rfl rfl rfl) (fun _ => rfl)
    (fun _ => ⟨rfl, ⟨rfl, rfl, rfl⟩, fun _ => rfl, rfl, rfl⟩) fun _ => ⟨rfl, rfl, rfl, rfl, rfl⟩

/-- A row whose effect is to give bit `k` of P the value `b`. -/
theorem impliedThen_setBit {row : FormRow} (k : Nat) (b : Bool) (hk : k < 8) (hrow : RowAgrees row)
    (hexec : ∀ s, exec row.instr s = impliedClass row.opcode (fun u => { u with p := setBit u.p k b }) s) :
    ImpliedThen row fun s t => t.p.getLsbD k = b ∧ SameFlagsBut [k] s t ∧ SameRegisters s t := by
  refine impliedThen_of_effect hrow hexec (fun _ => ⟨rfl, ⟨rfl, rfl, rfl⟩, fun _ => rfl, rfl, rfl⟩) fun s => ?_
  refine ⟨(setBit_getLsbD s.p k b k hk).trans (if_pos rfl), fun j _ hj => ?_, rfl, rfl, rfl, rfl⟩
  exact (setBit_getLsbD s.p k b j hk).trans (if_neg (mt List.mem_singleton.mpr hj))

/-- Settles O24: each sets one bit. -/
theorem flagInstructionsWriteOneFlag : Obligations.FlagInstructionsWriteOneFlag := by
  refine ⟨?_, ?_, ?_, ?_, ?_, ?_, ?_⟩ <;>
    exact impliedThen_setBit _ _ (by decide) (.of rfl rfl rfl rfl rfl) fun _ => rfl

/-- The rows of the trap opcodes are trap slots of the table (46_illegal.md R202). -/
theorem trapRows_slot : ∀ row ∈ trapRows, row.2.opcode = row.1 ∧ (descriptor row.1).slot = .trap := by decide

/-- Settles O32: every instruction of a trap slot raises Fatal. -/
theorem trapOpcodesRaiseFatal : Obligations.TrapOpcodesRaiseFatal := by
  refine ⟨rfl, fun s row hrow => ?_⟩
  obtain ⟨hop, hslot⟩ := trapRows_slot row hrow
  rw [← hop] at hslot ⊢
  exact ⟨rfl, exec_trap hslot s⟩

end Sys2Proof.Proofs
end
